-- ==== Sys2Proof/Word.lean ====
section
/-! DEFINITION. The word types of the core (00_scope.md R6) and the finite operand tables of 30_encoding.md
(R102 to R107): names only, no code and no meaning. -/

namespace Sys2Proof

/-- A byte: the data bus and every general register (R6). -/
abbrev Byte := BitVec 8

/-- A 16-bit word: memory addresses, PC, SP, IX, IY, `addr_reg` (R6). -/
abbrev Word := BitVec 16

/-- The seven 8-bit registers of table r (R102); code 6 is a memory operand and is no register. -/
inductive Reg8 where
  | b | c | d | e | h | l | a
deriving DecidableEq, Repr

/-- Table rp (R103). -/
inductive RPair where
  | bc | de | hl | sp
deriving DecidableEq, Repr

/-- Table rp2 (R104), for PUSH and POP. -/
inductive RPair2 where
  | bc | de | hl | af
deriving DecidableEq, Repr

/-- Table rp as `ADD XY,rp` reads it: code 2 is the index register itself (R103, R359). -/
inductive XPair where
  | bc | de | xy | sp
deriving DecidableEq, Repr

/-- Table cc (R105). -/
inductive Cond where
  | nz | z | nc | c | po | pe | p | m
deriving DecidableEq, Repr

/-- Table alu (R106). -/
inductive AluOp where
  | add | adc | sub | sbc | and | xor | or | cp
deriving DecidableEq, Repr

/-- Table rot (R107). -/
inductive Rot where
  | rlc | rrc | rl | rr | sla | sra | sll | srl
deriving DecidableEq, Repr

/-- The index register an index prefix selects: 0xDD selects IX, 0xFD selects IY (R100). -/
inductive Idx where
  | ix | iy
deriving DecidableEq, Repr

/-- Table r under an index prefix, without its memory code: codes 4 and 5 name the halves (R102, R350). -/
inductive XReg where
  | b | c | d | e | xyh | xyl | a
deriving DecidableEq, Repr

end Sys2Proof
end

