-- ==== Sys2Proof/Config.lean ====
section
/-! DEFINITION. The free values: what the spec leaves to the host and the model does not choose. The named parameters of
R7 stand in Machine/Params.lean. -/

namespace Sys2Proof

/-- What the host answers to the `k`-th `portIn` call that finds no ready answer, on the given port (20_memory.md R61,
U13: any value). No body: nothing is known of it (log 4). -/
opaque Config.portAnswer : Nat → Byte → Byte

end Sys2Proof
end

