-- ==== Sys2Proof/Machine/Bytes.lean ====
section
/-! DEFINITION. Byte order, halves of a word, sign extension and the fields of an opcode byte: the bit-field helpers the
decoder and the machine share (00_scope.md R8, R9; 20_memory.md R64; 30_encoding.md R101). -/

namespace Sys2Proof.Machine

/-- `hi:lo`, the word `hi * 256 + lo` (R8). -/
def mkWord (hi lo : Byte) : Word := hi ++ lo

/-- Bits 15..8 of a word (R8). -/
def hiByte (v : Word) : Byte := v.extractLsb' 8 8

/-- Bits 7..0 of a word (R8). -/
def loByte (v : Word) : Byte := v.extractLsb' 0 8

/-- `sext_16` (R9). -/
def sext16 (v : Byte) : Word := v.signExtend 16

/-- `add16(base, sext_16(d))`: the target of a relative jump (R116) and an index address (R117). -/
def displace (base : Word) (d : Byte) : Word := base + sext16 d

/-- The class field x = op[7:6] (R101). -/
def opX (op : Byte) : Nat := op.toNat / 64

/-- The sub-selector field y = op[5:3] (R101). -/
def opY (op : Byte) : Nat := op.toNat / 8 % 8

/-- The operand selector field z = op[2:0] (R101). -/
def opZ (op : Byte) : Nat := op.toNat % 8

/-- An opcode byte from its fields x, y, z (R101). -/
def opByte (x y z : Nat) : Byte := BitVec.ofNat 8 (64 * x + 8 * y + z)

end Sys2Proof.Machine
end

