-- ==== Sys2Proof/Machine/Params.lean ====
section
/-! DEFINITION. The named parameters the model takes as arguments (00_scope.md R7), the values this spec takes for them, and
the addresses the core fixes. The parameters are a field of State that no step changes, so that `exec` and `step` have them
(log 20); `RESET_DRAW`, the argument of a reset alone, stands in Machine/HostOps.lean. -/

namespace Sys2Proof.Machine

/-- `CYCLES`: the per-opcode base costs of the five tables, sixteen rows of sixteen by the opcode byte's two digits, and the
costs that belong to no opcode byte (70_reset_and_hazards.md R611 to R615, R617; U6). -/
structure CycleTable where
  base : List (List Nat)
  bits : List (List Nat)
  extended : List (List Nat)
  index : List (List Nat)
  displacedBits : List (List Nat)
  /-- an unknown ED opcode (R613) -/
  unknownExtended : Nat
  /-- an ignored index prefix (R614) -/
  ignoredPrefix : Nat
  /-- accepting a non-maskable interrupt (R617) -/
  nmi : Nat
  /-- accepting a maskable interrupt in mode 0, beside the executed byte's base cost (R617) -/
  modeZero : Nat
  /-- accepting a maskable interrupt in mode 1 (R617) -/
  modeOne : Nat
  /-- accepting a maskable interrupt in mode 2 (R617) -/
  modeTwo : Nat
deriving DecidableEq, Repr

/-- The parameters of R7 that an instruction or a step reads. -/
structure Params where
  /-- `CYCLES` -/
  cycleTable : CycleTable
  /-- `EI_DELAY`: what EI loads into the enable-delay counter -/
  eiDelay : Nat
  /-- `ED_IO_C`: whether `IN r,(C)` and `OUT (C),r` are known extended opcodes -/
  edIoC : Bool
  /-- `CYCLE_WIDTH`: the width of the cycle counter in bits, `none` where it is unbounded -/
  cycleWidth : Option Nat
deriving DecidableEq, Repr

/-- A count held in the cycle counter: taken mod 2^`CYCLE_WIDTH` where the width is bounded (R7, R9). -/
def Params.count (p : Params) (n : Nat) : Nat :=
  match p.cycleWidth with
  | none => n
  | some w => n % 2 ^ w

/-! ### The values this spec takes -/

/-- The base table (R611). 0 at the four prefix bytes, which are no instruction. -/
def specBaseCosts : List (List Nat) :=
  [[4, 10, 7, 6, 4, 4, 7, 4, 4, 11, 7, 6, 4, 4, 7, 4],
   [8, 10, 7, 6, 4, 4, 7, 4, 12, 11, 7, 6, 4, 4, 7, 4],
   [7, 10, 16, 6, 4, 4, 7, 4, 7, 11, 16, 6, 4, 4, 7, 4],
   [7, 10, 13, 6, 11, 11, 10, 4, 7, 11, 13, 6, 4, 4, 7, 4],
   [4, 4, 4, 4, 4, 4, 7, 4, 4, 4, 4, 4, 4, 4, 7, 4],
   [4, 4, 4, 4, 4, 4, 7, 4, 4, 4, 4, 4, 4, 4, 7, 4],
   [4, 4, 4, 4, 4, 4, 7, 4, 4, 4, 4, 4, 4, 4, 7, 4],
   [7, 7, 7, 7, 7, 7, 4, 7, 4, 4, 4, 4, 4, 4, 7, 4],
   [4, 4, 4, 4, 4, 4, 7, 4, 4, 4, 4, 4, 4, 4, 7, 4],
   [4, 4, 4, 4, 4, 4, 7, 4, 4, 4, 4, 4, 4, 4, 7, 4],
   [4, 4, 4, 4, 4, 4, 7, 4, 4, 4, 4, 4, 4, 4, 7, 4],
   [4, 4, 4, 4, 4, 4, 7, 4, 4, 4, 4, 4, 4, 4, 7, 4],
   [5, 10, 10, 10, 10, 11, 7, 11, 5, 10, 10, 0, 10, 17, 7, 11],
   [5, 10, 10, 11, 10, 11, 7, 11, 5, 4, 10, 11, 10, 0, 7, 11],
   [5, 10, 10, 19, 10, 11, 7, 11, 5, 4, 10, 4, 10, 0, 7, 11],
   [5, 10, 10, 4, 10, 11, 7, 11, 5, 6, 10, 4, 10, 0, 7, 11]]

/-- The CB table, the CB byte counted in (R612). -/
def specBitCosts : List (List Nat) :=
  [[8, 8, 8, 8, 8, 8, 15, 8, 8, 8, 8, 8, 8, 8, 15, 8],
   [8, 8, 8, 8, 8, 8, 15, 8, 8, 8, 8, 8, 8, 8, 15, 8],
   [8, 8, 8, 8, 8, 8, 15, 8, 8, 8, 8, 8, 8, 8, 15, 8],
   [8, 8, 8, 8, 8, 8, 15, 8, 8, 8, 8, 8, 8, 8, 15, 8],
   [8, 8, 8, 8, 8, 8, 12, 8, 8, 8, 8, 8, 8, 8, 12, 8],
   [8, 8, 8, 8, 8, 8, 12, 8, 8, 8, 8, 8, 8, 8, 12, 8],
   [8, 8, 8, 8, 8, 8, 12, 8, 8, 8, 8, 8, 8, 8, 12, 8],
   [8, 8, 8, 8, 8, 8, 12, 8, 8, 8, 8, 8, 8, 8, 12, 8],
   [8, 8, 8, 8, 8, 8, 15, 8, 8, 8, 8, 8, 8, 8, 15, 8],
   [8, 8, 8, 8, 8, 8, 15, 8, 8, 8, 8, 8, 8, 8, 15, 8],
   [8, 8, 8, 8, 8, 8, 15, 8, 8, 8, 8, 8, 8, 8, 15, 8],
   [8, 8, 8, 8, 8, 8, 15, 8, 8, 8, 8, 8, 8, 8, 15, 8],
   [8, 8, 8, 8, 8, 8, 15, 8, 8, 8, 8, 8, 8, 8, 15, 8],
   [8, 8, 8, 8, 8, 8, 15, 8, 8, 8, 8, 8, 8, 8, 15, 8],
   [8, 8, 8, 8, 8, 8, 15, 8, 8, 8, 8, 8, 8, 8, 15, 8],
   [8, 8, 8, 8, 8, 8, 15, 8, 8, 8, 8, 8, 8, 8, 15, 8]]

/-- The ED table, the ED byte counted in (R613). 0 at the bytes that are no known entry: they cost `unknownExtended`. -/
def specExtendedCosts : List (List Nat) :=
  [[0, 0, 0, 0, 0, 0, 0, 0, 0, 0, 0, 0, 0, 0, 0, 0],
   [0, 0, 0, 0, 0, 0, 0, 0, 0, 0, 0, 0, 0, 0, 0, 0],
   [0, 0, 0, 0, 0, 0, 0, 0, 0, 0, 0, 0, 0, 0, 0, 0],
   [0, 0, 0, 0, 0, 0, 0, 0, 0, 0, 0, 0, 0, 0, 0, 0],
   [12, 12, 15, 20, 8, 14, 8, 9, 12, 12, 15, 20, 0, 14, 0, 9],
   [12, 12, 15, 20, 0, 0, 8, 9, 12, 12, 15, 20, 0, 0, 8, 9],
   [12, 12, 15, 20, 0, 0, 0, 18, 12, 12, 15, 20, 0, 0, 0, 18],
   [0, 0, 15, 20, 0, 0, 0, 0, 12, 12, 15, 20, 0, 0, 0, 0],
   [0, 0, 0, 0, 0, 0, 0, 0, 0, 0, 0, 0, 0, 0, 0, 0],
   [0, 0, 0, 0, 0, 0, 0, 0, 0, 0, 0, 0, 0, 0, 0, 0],
   [16, 16, 16, 16, 0, 0, 0, 0, 16, 16, 16, 16, 0, 0, 0, 0],
   [16, 16, 16, 16, 0, 0, 0, 0, 16, 16, 16, 16, 0, 0, 0, 0],
   [0, 0, 0, 0, 0, 0, 0, 0, 0, 0, 0, 0, 0, 0, 0, 0],
   [0, 0, 0, 0, 0, 0, 0, 0, 0, 0, 0, 0, 0, 0, 0, 0],
   [0, 0, 0, 0, 0, 0, 0, 0, 0, 0, 0, 0, 0, 0, 0, 0],
   [0, 0, 0, 0, 0, 0, 0, 0, 0, 0, 0, 0, 0, 0, 0, 0]]

/-- The index table, the prefix byte counted in (R614). 0 at the bytes it lacks: a fallback costs `ignoredPrefix` and the cost of
what follows. -/
def specIndexCosts : List (List Nat) :=
  [[0, 0, 0, 0, 0, 0, 0, 0, 0, 15, 0, 0, 0, 0, 0, 0],
   [0, 0, 0, 0, 0, 0, 0, 0, 0, 15, 0, 0, 0, 0, 0, 0],
   [0, 14, 20, 10, 8, 8, 11, 0, 0, 15, 20, 10, 8, 8, 11, 0],
   [0, 0, 0, 0, 23, 23, 19, 0, 0, 15, 0, 0, 0, 0, 0, 0],
   [0, 0, 0, 0, 8, 8, 19, 0, 0, 0, 0, 0, 8, 8, 19, 0],
   [0, 0, 0, 0, 8, 8, 19, 0, 0, 0, 0, 0, 8, 8, 19, 0],
   [8, 8, 8, 8, 8, 8, 19, 8, 8, 8, 8, 8, 8, 8, 19, 8],
   [19, 19, 19, 19, 19, 19, 0, 19, 0, 0, 0, 0, 8, 8, 19, 0],
   [0, 0, 0, 0, 8, 8, 19, 0, 0, 0, 0, 0, 8, 8, 19, 0],
   [0, 0, 0, 0, 8, 8, 19, 0, 0, 0, 0, 0, 8, 8, 19, 0],
   [0, 0, 0, 0, 8, 8, 19, 0, 0, 0, 0, 0, 8, 8, 19, 0],
   [0, 0, 0, 0, 8, 8, 19, 0, 0, 0, 0, 0, 8, 8, 19, 0],
   [0, 0, 0, 0, 0, 0, 0, 0, 0, 0, 0, 0, 0, 0, 0, 0],
   [0, 0, 0, 0, 0, 0, 0, 0, 0, 0, 0, 0, 0, 0, 0, 0],
   [0, 14, 0, 23, 0, 15, 0, 0, 0, 8, 0, 0, 0, 0, 0, 0],
   [0, 0, 0, 0, 0, 0, 0, 0, 0, 10, 0, 0, 0, 0, 0, 0]]

/-- The displaced-bit table, the whole four-byte instruction (R615). -/
def specDisplacedBitCosts : List (List Nat) :=
  [[23, 23, 23, 23, 23, 23, 23, 23, 23, 23, 23, 23, 23, 23, 23, 23],
   [23, 23, 23, 23, 23, 23, 23, 23, 23, 23, 23, 23, 23, 23, 23, 23],
   [23, 23, 23, 23, 23, 23, 23, 23, 23, 23, 23, 23, 23, 23, 23, 23],
   [23, 23, 23, 23, 23, 23, 23, 23, 23, 23, 23, 23, 23, 23, 23, 23],
   [20, 20, 20, 20, 20, 20, 20, 20, 20, 20, 20, 20, 20, 20, 20, 20],
   [20, 20, 20, 20, 20, 20, 20, 20, 20, 20, 20, 20, 20, 20, 20, 20],
   [20, 20, 20, 20, 20, 20, 20, 20, 20, 20, 20, 20, 20, 20, 20, 20],
   [20, 20, 20, 20, 20, 20, 20, 20, 20, 20, 20, 20, 20, 20, 20, 20],
   [23, 23, 23, 23, 23, 23, 23, 23, 23, 23, 23, 23, 23, 23, 23, 23],
   [23, 23, 23, 23, 23, 23, 23, 23, 23, 23, 23, 23, 23, 23, 23, 23],
   [23, 23, 23, 23, 23, 23, 23, 23, 23, 23, 23, 23, 23, 23, 23, 23],
   [23, 23, 23, 23, 23, 23, 23, 23, 23, 23, 23, 23, 23, 23, 23, 23],
   [23, 23, 23, 23, 23, 23, 23, 23, 23, 23, 23, 23, 23, 23, 23, 23],
   [23, 23, 23, 23, 23, 23, 23, 23, 23, 23, 23, 23, 23, 23, 23, 23],
   [23, 23, 23, 23, 23, 23, 23, 23, 23, 23, 23, 23, 23, 23, 23, 23],
   [23, 23, 23, 23, 23, 23, 23, 23, 23, 23, 23, 23, 23, 23, 23, 23]]

/-- The value this spec takes for `CYCLES` (D14, D30; log 9). -/
def specCycles : CycleTable :=
  { base := specBaseCosts, bits := specBitCosts, extended := specExtendedCosts, index := specIndexCosts
    displacedBits := specDisplacedBitCosts
    unknownExtended := 8, ignoredPrefix := 4, nmi := 11, modeZero := 2, modeOne := 13, modeTwo := 19 }

/-- The values this spec takes for the parameters (D4, D7, D15, D30; log 9). -/
def specParams : Params := { cycleTable := specCycles, eiDelay := 3, edIoC := true, cycleWidth := none }

/-! ### Fixed values -/

/-- What a memory byte that nothing has written holds (log 2). -/
def unlistedByte : Byte := 0

/-- The RST and interrupt entries the core fixes (20_memory.md R69): mode 1. -/
def modeOneEntry : Word := 0x0038

/-- The NMI entry (20_memory.md R69, R508). -/
def nmiEntry : Word := 0x0066

end Sys2Proof.Machine
end

