-- ==== Sys2Proof/Machine/State.lean ====
section
/-! DEFINITION. The state of the machine as plain data (10_state.md), its reset value (R42, R600), and the reasons a step
can stop. -/

namespace Sys2Proof.Machine

/-- The eight flag bits, the source of truth; the packed byte F is a view of them (R22). -/
structure Flags where
  /-- fS, sign -/
  s : Bool
  /-- fZ, zero -/
  z : Bool
  /-- fY, bit-5 copy -/
  y : Bool
  /-- fH, half-carry -/
  h : Bool
  /-- fX, bit-3 copy -/
  x : Bool
  /-- fPV, parity/overflow -/
  pv : Bool
  /-- fN, subtract -/
  n : Bool
  /-- fC, carry -/
  c : Bool
deriving DecidableEq, Repr

/-- One call of a bus operation (20_memory.md R60), with the value that went over the bus. -/
inductive BusEvent where
  | read (addr : Word) (v : Byte)
  | write (addr : Word) (v : Byte)
  | portIn (port v : Byte)
  | portOut (port v : Byte)
deriving DecidableEq, Repr

/-- A diagnostic event (60_exceptions.md R501, R502). -/
inductive Diag where
  | unknownExtendedOpcode (op : Byte)
  | unsupportedInterruptMode (im : BitVec 2)
deriving DecidableEq, Repr

/-- Memory: (address, byte) pairs, addresses strictly rising, none equal to what an unlisted address reads as
(`Memory.wf`). -/
abbrev Memory := List Host.Cell

/-- The state of the machine. The first group is the spec's (10_state.md R42), then the memory behind the bus (R63), then
the outputs of the steps so far, then the model's own fields: what the host answers, the hang, the parameters. -/
structure State where
  a : Byte
  f : Flags
  b : Byte
  c : Byte
  d : Byte
  e : Byte
  h : Byte
  l : Byte
  /-- A' (R25) -/
  a' : Byte
  /-- F', stored packed (R25) -/
  f' : Byte
  b' : Byte
  c' : Byte
  d' : Byte
  e' : Byte
  h' : Byte
  l' : Byte
  ix : Word
  iy : Word
  sp : Word
  pc : Word
  /-- I, the interrupt-vector register (R30) -/
  i : Byte
  /-- R, the refresh register (R31) -/
  r : Byte
  /-- addr_reg, the address-tracking register (R32) -/
  addrReg : Word
  iff1 : Bool
  iff2 : Bool
  /-- IM, a 2-bit field; 3 is reachable by no instruction (R34) -/
  im : BitVec 2
  halted : Bool
  nmiPending : Bool
  intPending : Bool
  intData : Byte
  eiDelay : Nat
  cycles : Nat
  mem : Memory
  /-- Every bus call so far, newest first (R60, R66). -/
  bus : List BusEvent
  /-- Every diagnostic so far, newest first (R501, R502). -/
  diags : List Diag
  /-- The host's answers to the coming `readByte` calls, oldest first: any byte, or `none` for the byte memory holds, which is
  also what a call beyond the list is answered (R61, U13; log 1). -/
  answers : List (Option Byte)
  /-- The answers the host has ready for the coming `portIn` calls, oldest first (R61, log 4). -/
  inputs : List Byte
  /-- How many `portIn` calls found no ready answer: the index of the next free answer (log 4). -/
  portReads : Nat
  /-- A step of the core is inside a run of index prefixes that never ends: the hang of 44_index.md R353 (U5, log 6). -/
  hung : Bool
  /-- The parameters of the model (00_scope.md R7); no step changes them (log 20). -/
  params : Params
deriving DecidableEq, Repr

/-- Why a step stops with a fault: never. The core has no fault (R500), and no behaviour of it is treated as one
(93_implementation_defined.md, section 1). -/
inductive Fault where
deriving DecidableEq, Repr

/-- Why a step or an instruction is refused. -/
inductive Refusal where
  /-- Raised by an arm of `exec` that has no meaning yet. Safe. No arm raises it. -/
  | notModelled (mnemonic : String)
  /-- Raised by `step` on accepting a mode-0 interrupt whose data byte is a prefix or needs operand bytes, which the spec
  refuses (60_exceptions.md R510, U3). Safe. -/
  | modeZeroNeedsOperands (op : Byte)
  /-- Raised by `exec` on a term that is no instruction: a fallback around a bare prefix row. No bytes decode to one
  (log 10). Safe. -/
  | illFormed
deriving DecidableEq, Repr

/-- The state right after reset: the values of R600 and R42; every draw of R601 is 0 (log 3), memory lists nothing
(log 2), no bus call and no diagnostic has happened (R602), and the parameters are those this spec takes (log 9). -/
def State.reset : State :=
  { a := 0xFF, f := ⟨true, true, true, true, true, true, true, true⟩
    b := 0, c := 0, d := 0, e := 0, h := 0, l := 0
    a' := 0, f' := 0, b' := 0, c' := 0, d' := 0, e' := 0, h' := 0, l' := 0
    ix := 0, iy := 0, sp := 0xFFFF, pc := 0x0000
    i := 0, r := 0x00, addrReg := 0
    iff1 := false, iff2 := false, im := 0
    halted := false, nmiPending := false, intPending := false, intData := 0
    eiDelay := 0, cycles := 0
    mem := [], bus := [], diags := []
    answers := [], inputs := [], portReads := 0
    hung := false, params := specParams }

end Sys2Proof.Machine
end

