-- ==== Sys2Proof/Machine/Memory.lean ====
section
/-! DEFINITION. The memory behind the bus: the 2^16 bytes of 20_memory.md R63 as a canonical list, read and written one
byte at a time (R67). What a read answers is the host's (R61); this is what it answers where it answers as plain RAM (log 1). -/

namespace Sys2Proof.Machine

/-- The byte at an address. -/
def Memory.read : Memory → Nat → Byte
  | [], _ => unlistedByte
  | (k, v) :: t, addr => if k = addr then v else Memory.read t addr

/-- A cell put in front of the cells after it, left out where it says nothing. -/
def Memory.cons (addr : Nat) (v : Byte) (t : Memory) : Memory :=
  if v = unlistedByte then t else (addr, v) :: t

/-- Memory after a byte is written, in canonical form. -/
def Memory.write : Memory → Nat → Byte → Memory
  | [], addr, v => Memory.cons addr v []
  | (k, w) :: t, addr, v =>
    if addr < k then Memory.cons addr v ((k, w) :: t)
    else if addr = k then Memory.cons addr v t
    else (k, w) :: Memory.write t addr v

/-- The cells are in canonical form at and above an address: addresses rise strictly, lie below 2^16, and no cell holds what an
unlisted address reads as. -/
def Memory.wfFrom : Nat → Memory → Bool
  | _, [] => true
  | lo, (k, v) :: t => decide (lo ≤ k) && decide (k < 65536) && decide (v ≠ unlistedByte) && Memory.wfFrom (k + 1) t

/-- The canonical form. -/
def Memory.wf (m : Memory) : Bool := Memory.wfFrom 0 m

end Sys2Proof.Machine
end

