-- ==== Sys2Proof/Machine/Ops.lean ====
section
/-! DEFINITION. The named operations over the bus, the stack, the counters and the interrupt state. Every access to memory or
a port goes through here: a read is a value (`peek`) and the state after the bus call that fetched it (`sawRead`), so that
the order of bus calls is kept in `bus` (20_memory.md R60, R66, R67). -/

namespace Sys2Proof.Machine

/-- Sequencing of outcomes: a fault or a refusal stops. -/
def andThen (o : Host.Outcome State Fault Refusal) (k : State → Host.Outcome State Fault Refusal) :
    Host.Outcome State Fault Refusal :=
  match o with
  | .next s => k s
  | .fault r => .fault r
  | .refused r => .refused r

/-! ### Memory -/

/-- The byte memory holds at an address: what the last `writeByte` to it delivered, or what the host put there. -/
def State.memByte (s : State) (addr : Word) : Byte := Memory.read s.mem addr.toNat

/-- What the next call `readByte(addr)` answers: the host's next answer, or the byte memory holds (R61, log 1). -/
def State.peek (s : State) (addr : Word) : Byte :=
  match s.answers with
  | some v :: _ => v
  | none :: _ => s.memByte addr
  | [] => s.memByte addr

/-- The state after the call `readByte(addr)`: its answer is used up (R60, R61). -/
def State.sawRead (s : State) (addr : Word) : State :=
  { s with answers := s.answers.tail, bus := .read addr (s.peek addr) :: s.bus }

/-- The call `writeByte(addr, v)` (R60). -/
def State.writeByte (s : State) (addr : Word) (v : Byte) : State :=
  { s with mem := Memory.write s.mem addr.toNat v, bus := .write addr v :: s.bus }

/-- The value of `MemRead(addr, 2)`: little-endian, the low address read first, the second address wraps (R64). -/
def State.peek16 (s : State) (addr : Word) : Word := mkWord ((s.sawRead addr).peek (addr + 1)) (s.peek addr)

/-- The state after `MemRead(addr, 2)`: the low address is read first (R64). -/
def State.sawRead16 (s : State) (addr : Word) : State := (s.sawRead addr).sawRead (addr + 1)

/-- `MemWrite(addr, 2, v)`: the low byte at `addr` first (R64). -/
def State.writeWord (s : State) (addr : Word) (v : Word) : State :=
  (s.writeByte addr (loByte v)).writeByte (addr + 1) (hiByte v)

/-! ### Instruction fetch -/

/-- The state after the call `fetch8()`: the byte at PC is read and PC moves past it (R65). -/
def State.fetchByte (s : State) : State := { s.sawRead s.pc with pc := s.pc + 1 }

/-- `n` calls of `fetch8()` (R65). -/
def State.fetch : Nat → State → State
  | 0, s => s
  | n + 1, s => State.fetch n s.fetchByte

/-- What the next `n` calls of `readByte`, from an address up and wrapping, answer (R61, R65). -/
def State.bytesAt (s : State) : Nat → Word → List Byte
  | 0, _ => []
  | n + 1, addr => s.peek addr :: (s.sawRead addr).bytesAt n (addr + 1)

/-- The fetch of a run of index prefixes that never ends goes on by a byte (44_index.md R353, log 6). -/
def State.hangOn (s : State) : State := { s.fetchByte with hung := true }

/-! ### Stack -/

/-- `push16(v)`: the high byte at SP-1 first, then the low byte at SP-2 (41_base_load.md R215). -/
def State.push16 (s : State) (v : Word) : State :=
  ({ (({ s with sp := s.sp - 1 } : State).writeByte (s.sp - 1) (hiByte v)) with sp := s.sp - 2 } : State).writeByte
    (s.sp - 2) (loByte v)

/-- The value of `pop16()`: the low byte at SP, the high byte at SP+1 (41_base_load.md R216). -/
def State.popValue (s : State) : Word := s.peek16 s.sp

/-- The state after `pop16()` (R216). -/
def State.afterPop (s : State) : State := { s.sawRead16 s.sp with sp := s.sp + 2 }

/-- The swap of the top of the stack with `v`: reads SP and SP+1, then writes SP+1 and SP (R66, R220, R375). -/
def State.swapTop (s : State) (v : Word) : State :=
  ((s.sawRead16 s.sp).writeByte (s.sp + 1) (hiByte v)).writeByte s.sp (loByte v)

/-! ### Ports -/

/-- What `portIn(port)` answers: the host's oldest ready answer, else a free value (R61, log 4). -/
def State.portValue (s : State) (port : Byte) : Byte :=
  match s.inputs with
  | v :: _ => v
  | [] => Config.portAnswer s.portReads port

/-- The state after the call `portIn(port)` (R60, log 4). -/
def State.sawPortIn (s : State) (port : Byte) : State :=
  match s.inputs with
  | v :: rest => { s with inputs := rest, bus := .portIn port v :: s.bus }
  | [] => { s with portReads := s.portReads + 1, bus := .portIn port (Config.portAnswer s.portReads port) :: s.bus }

/-- The call `portOut(port, v)` (R60). -/
def State.portOut (s : State) (port v : Byte) : State := { s with bus := .portOut port v :: s.bus }

/-! ### Diagnostics, counters -/

/-- `diag(kind, info)` (60_exceptions.md R501). -/
def State.diag (s : State) (ev : Diag) : State := { s with diags := ev :: s.diags }

/-- `cycles += n` (70_reset_and_hazards.md R610), within `CYCLE_WIDTH` (R39). -/
def State.tick (s : State) (n : Nat) : State := { s with cycles := s.params.count (s.cycles + n) }

/-- The step's increment of R: the low seven bits count, bit 7 stays (10_state.md R31). -/
def State.incR (s : State) : State := { s with r := (s.r &&& 0x80) ||| ((s.r + 1) &&& 0x7F) }

/-- `addr_reg <- addr` (10_state.md R32). -/
def State.setAddrReg (s : State) (addr : Word) : State := { s with addrReg := addr }

/-- `PC <- target`. -/
def State.jump (s : State) (target : Word) : State := { s with pc := target }

/-- The subroutine call: the PC past the instruction is pushed (43_base_control.md R306). -/
def State.callTo (s : State) (target : Word) : State := (s.push16 s.pc).jump target

/-- `PC <- pop16()` (43_base_control.md R308). -/
def State.returnPc (s : State) : State := s.afterPop.jump s.popValue

/-- A taken branch's or a repeat's surcharge (R616). -/
def State.surcharge (s : State) (n : Nat) : State := s.tick n

/-- The rewind of a repeating block instruction (46_extended.md R431): PC back to the ED byte, five more cycles. -/
def State.rewind (s : State) : State := ({ s with pc := s.pc - 2 } : State).surcharge 5

/-! ### Taking an interrupt and returning from one

The core has no synchronous exception (R500). What every acceptance does is one operation: the CPU wakes from a halt, the
enable flip-flops change, the PC is saved on the stack and the handler's address goes into it (60_exceptions.md R508,
R509, R511, R512). -/

/-- Waking and masking: what every acceptance does first. The NMI clears IFF1 only, a maskable acceptance both (R508, R509). -/
def State.wakeMasked (s : State) (clearIff2 : Bool) : State :=
  { s with halted := false, iff1 := false, iff2 := s.iff2 && !clearIff2 }

/-- The save of the PC and the jump to the handler (R508, R511, R512). -/
def State.enterHandler (s : State) (entry : Word) : State := s.callTo entry

/-- `accept_nmi()`, without its cycles: IFF2 keeps its value so that RETN can restore IFF1 (R508). -/
def State.takeNmi (s : State) : State :=
  ({ s.wakeMasked false with nmiPending := false } : State).enterHandler nmiEntry

/-- The part of `accept_maskable()` common to the modes (R509). -/
def State.takeMaskable (s : State) : State := { s.wakeMasked true with intPending := false }

/-- Mode 2: push PC, then read the little-endian table entry at `I:int_data` (R512). -/
def State.enterVector (s : State) : State :=
  let pushed := s.push16 s.pc
  let entry := mkWord s.i s.intData
  (pushed.sawRead16 entry).jump (pushed.peek16 entry)

/-- The return from a non-maskable interrupt: `PC <- pop16(); IFF1 <- IFF2` (46_extended.md R439, R514). -/
def State.returnNmi (s : State) : State := { s.returnPc with iff1 := s.iff2 }

end Sys2Proof.Machine
end

