-- ==== Sys2Proof/Machine/Operands.lean ====
section
/-! DEFINITION. Every operand form: the 8-bit registers (R102), the pairs (R21, R103, R104), the index registers and their
halves (R27, R350), the displaced address (R351) and the conditions (R320). -/

namespace Sys2Proof.Machine

/-! ### Packed flags -/

/-- The packed flag byte F (10_state.md R23). -/
def Flags.pack (f : Flags) : Byte :=
  BitVec.ofNat 8
    (128 * f.s.toNat + 64 * f.z.toNat + 32 * f.y.toNat + 16 * f.h.toNat + 8 * f.x.toNat + 4 * f.pv.toNat + 2 * f.n.toNat
      + f.c.toNat)

/-- Writing the packed flag byte sets the eight flags (10_state.md R24). -/
def Flags.unpack (v : Byte) : Flags :=
  { s := v.getLsbD 7, z := v.getLsbD 6, y := v.getLsbD 5, h := v.getLsbD 4
    x := v.getLsbD 3, pv := v.getLsbD 2, n := v.getLsbD 1, c := v.getLsbD 0 }

/-- `write fl` (40_alu_flags.md R150). -/
def State.setFlags (s : State) (f : Flags) : State := { s with f := f }

/-- `A <- v`. -/
def State.setA (s : State) (v : Byte) : State := { s with a := v }

/-! ### Eight-bit registers -/

/-- `reg8(k)` (R10, R102). -/
def State.reg8 (s : State) : Reg8 → Byte
  | .b => s.b | .c => s.c | .d => s.d | .e => s.e | .h => s.h | .l => s.l | .a => s.a

/-- `reg8(k) <- v` (R10, R102). -/
def State.setReg8 (s : State) (r : Reg8) (v : Byte) : State :=
  match r with
  | .b => { s with b := v }
  | .c => { s with c := v }
  | .d => { s with d := v }
  | .e => { s with e := v }
  | .h => { s with h := v }
  | .l => { s with l := v }
  | .a => { s with a := v }

/-! ### Pairs: views of the 8-bit registers (R21) -/

/-- BC = B:C (R21). -/
def State.bc (s : State) : Word := mkWord s.b s.c

/-- DE = D:E (R21). -/
def State.de (s : State) : Word := mkWord s.d s.e

/-- HL = H:L (R21). -/
def State.hl (s : State) : Word := mkWord s.h s.l

/-- AF = A:F (R21, R23). -/
def State.af (s : State) : Word := mkWord s.a s.f.pack

/-- `BC <- v` (R21). -/
def State.setBc (s : State) (v : Word) : State := { s with b := hiByte v, c := loByte v }

/-- `DE <- v` (R21). -/
def State.setDe (s : State) (v : Word) : State := { s with d := hiByte v, e := loByte v }

/-- `HL <- v` (R21). -/
def State.setHl (s : State) (v : Word) : State := { s with h := hiByte v, l := loByte v }

/-- `AF <- v`: A, and F unpacked into the flags (R21, R24). -/
def State.setAf (s : State) (v : Word) : State := { s with a := hiByte v, f := Flags.unpack (loByte v) }

/-- `rp(k)` (R103). -/
def State.rp (s : State) : RPair → Word
  | .bc => s.bc | .de => s.de | .hl => s.hl | .sp => s.sp

/-- `rp(k) <- v` (R103). -/
def State.setRp (s : State) (p : RPair) (v : Word) : State :=
  match p with
  | .bc => s.setBc v
  | .de => s.setDe v
  | .hl => s.setHl v
  | .sp => { s with sp := v }

/-- `rp2(k)` (R104). -/
def State.rp2 (s : State) : RPair2 → Word
  | .bc => s.bc | .de => s.de | .hl => s.hl | .af => s.af

/-- `rp2(k) <- v` (R104). -/
def State.setRp2 (s : State) (p : RPair2) (v : Word) : State :=
  match p with
  | .bc => s.setBc v
  | .de => s.setDe v
  | .hl => s.setHl v
  | .af => s.setAf v

/-! ### Index registers (R27) -/

/-- The index register of a prefix. -/
def State.xy (s : State) : Idx → Word
  | .ix => s.ix | .iy => s.iy

/-- Writing the index register of a prefix. -/
def State.setXy (s : State) (xy : Idx) (v : Word) : State :=
  match xy with
  | .ix => { s with ix := v }
  | .iy => { s with iy := v }

/-- XYH = XY[15:8] (R27). -/
def State.xyH (s : State) (xy : Idx) : Byte := hiByte (s.xy xy)

/-- XYL = XY[7:0] (R27). -/
def State.xyL (s : State) (xy : Idx) : Byte := loByte (s.xy xy)

/-- Writing XYH changes only that half (R27). -/
def State.setXyH (s : State) (xy : Idx) (v : Byte) : State := s.setXy xy (mkWord v (s.xyL xy))

/-- Writing XYL changes only that half (R27). -/
def State.setXyL (s : State) (xy : Idx) (v : Byte) : State := s.setXy xy (mkWord (s.xyH xy) v)

/-- An 8-bit operand under an index prefix: codes 4 and 5 are the halves (R350, R372). -/
def State.xreg (s : State) (xy : Idx) : XReg → Byte
  | .b => s.b | .c => s.c | .d => s.d | .e => s.e | .xyh => s.xyH xy | .xyl => s.xyL xy | .a => s.a

/-- Writing an 8-bit operand under an index prefix (R350, R372). -/
def State.setXReg (s : State) (xy : Idx) (r : XReg) (v : Byte) : State :=
  match r with
  | .b => { s with b := v }
  | .c => { s with c := v }
  | .d => { s with d := v }
  | .e => { s with e := v }
  | .xyh => s.setXyH xy v
  | .xyl => s.setXyL xy v
  | .a => { s with a := v }

/-- The second operand of `ADD XY,rp` (R359). -/
def State.xpair (s : State) (xy : Idx) : XPair → Word
  | .bc => s.bc | .de => s.de | .xy => s.xy xy | .sp => s.sp

/-- The effective address of `(XY+d)` (R351). -/
def State.ea (s : State) (xy : Idx) (d : Byte) : Word := displace (s.xy xy) d

/-- The state after the effective address is formed: it is recorded in `addr_reg` (R351). -/
def State.formEa (s : State) (xy : Idx) (d : Byte) : State := s.setAddrReg (s.ea xy d)

/-! ### Conditions (R320) -/

/-- `cond(k)` (R320). -/
def Flags.holds (f : Flags) : Cond → Bool
  | .nz => !f.z | .z => f.z | .nc => !f.c | .c => f.c | .po => !f.pv | .pe => f.pv | .p => !f.s | .m => f.s

end Sys2Proof.Machine
end

