-- ==== Sys2Proof/Machine/Flags.lean ====
section
/-! DEFINITION. The ALU and flag-compute unit (40_alu_flags.md): pure functions of operands and flags. A helper that leaves
flags alone takes the old flags and keeps them (R150). -/

namespace Sys2Proof.Machine

/-- `parityEven(v)`: the number of 1 bits is even (R151). -/
def parityEven (v : Byte) : Bool :=
  ((v.getLsbD 0).toNat + (v.getLsbD 1).toNat + (v.getLsbD 2).toNat + (v.getLsbD 3).toNat + (v.getLsbD 4).toNat
    + (v.getLsbD 5).toNat + (v.getLsbD 6).toNat + (v.getLsbD 7).toNat) % 2 == 0

/-- `szxy(v)`: fS, fZ, fY and fX from a result, the other flags kept (R152). -/
def Flags.szxy (f : Flags) (v : Byte) : Flags :=
  { f with s := v.getLsbD 7, z := v == 0, y := v.getLsbD 5, x := v.getLsbD 3 }

/-- `szxy(v)` with the other four flags given: the shape of every full flag record of this file (R152). -/
def flagsOf (v : Byte) (h pv n c : Bool) : Flags :=
  { s := v.getLsbD 7, z := v == 0, y := v.getLsbD 5, h := h, x := v.getLsbD 3, pv := pv, n := n, c := c }

/-- `addByte(a, b, cin)` (R153). -/
def addByte (a b : Byte) (cin : Bool) : Byte × Flags :=
  let sum := a.toNat + b.toNat + cin.toNat
  let res : Byte := BitVec.ofNat 8 sum
  let c4 := decide (a.toNat % 16 + b.toNat % 16 + cin.toNat > 0x0F)
  let c7 := decide (a.toNat % 128 + b.toNat % 128 + cin.toNat > 0x7F)
  let c8 := decide (sum > 0xFF)
  (res, flagsOf res c4 (c7 ^^ c8) false c8)

/-- `subByte(a, b, cin)`: `addByte` of the one's complement, carry and half-carry complemented (R154). -/
def subByte (a b : Byte) (cin : Bool) : Byte × Flags :=
  let g := addByte a (~~~b) (!cin)
  (g.1, { g.2 with c := !g.2.c, h := !g.2.h, n := true })

/-- `compare(a, b)`: the flags of the subtraction, fY and fX from `b` (R155). -/
def compareByte (a b : Byte) : Flags := { (subByte a b false).2 with y := b.getLsbD 5, x := b.getLsbD 3 }

/-- `incByte(v)`: fC is kept (R156). -/
def incByte (f : Flags) (v : Byte) : Byte × Flags :=
  let g := addByte v 1 false
  (g.1, { g.2 with c := f.c })

/-- `decByte(v)`: fC is kept (R157). -/
def decByte (f : Flags) (v : Byte) : Byte × Flags :=
  let g := subByte v 1 false
  (g.1, { g.2 with c := f.c })

/-- The flags of AND, XOR and OR: fH is 1 for AND (R158). -/
def logicFlags (res : Byte) (half : Bool) : Flags := flagsOf res half (parityEven res) false false

/-- `alu[y]` on A: the result to keep in A and the flags (R106, R251 to R258). CP keeps A. -/
def aluByte (op : AluOp) (f : Flags) (a v : Byte) : Byte × Flags :=
  match op with
  | .add => addByte a v false
  | .adc => addByte a v f.c
  | .sub => subByte a v false
  | .sbc => subByte a v f.c
  | .and => (a &&& v, logicFlags (a &&& v) true)
  | .xor => (a ^^^ v, logicFlags (a ^^^ v) false)
  | .or => (a ||| v, logicFlags (a ||| v) false)
  | .cp => (a, compareByte a v)

/-- The result of `rotShift(k, v, cin)` (R159). -/
def rotResult (k : Rot) (v : Byte) (cin : Bool) : Byte :=
  match k with
  | .rlc => (v <<< 1) ||| (v >>> 7)
  | .rrc => (v >>> 1) ||| (v <<< 7)
  | .rl => (v <<< 1) ||| BitVec.ofNat 8 cin.toNat
  | .rr => (v >>> 1) ||| (BitVec.ofNat 8 cin.toNat <<< 7)
  | .sla => v <<< 1
  | .sra => (v >>> 1) ||| (v &&& 0x80)
  | .sll => (v <<< 1) ||| 1
  | .srl => v >>> 1

/-- The bit a rotate or shift moves out: bit 7 leftwards, bit 0 rightwards (R159). -/
def rotCarry (k : Rot) (v : Byte) : Bool :=
  match k with
  | .rlc => v.getLsbD 7
  | .rrc => v.getLsbD 0
  | .rl => v.getLsbD 7
  | .rr => v.getLsbD 0
  | .sla => v.getLsbD 7
  | .sra => v.getLsbD 0
  | .sll => v.getLsbD 7
  | .srl => v.getLsbD 0

/-- `rotShift(k, v, cin)` (R159). -/
def rotShift (k : Rot) (v : Byte) (cin : Bool) : Byte × Flags :=
  let res := rotResult k v cin
  (res, flagsOf res false (parityEven res) false (rotCarry k v))

/-- The flags of the accumulator rotates RLCA, RRCA, RLA and RRA: fS, fZ and fPV are kept (R270). -/
def accRotFlags (f : Flags) (res : Byte) (c : Bool) : Flags :=
  { f with y := res.getLsbD 5, h := false, x := res.getLsbD 3, n := false, c := c }

/-- `addWord(a, b)`: fS, fZ and fPV are kept; the caller writes `addr_reg` (R160). -/
def addWord (f : Flags) (a b : Word) : Word × Flags :=
  let lo := addByte (loByte a) (loByte b) false
  let hi := addByte (hiByte a) (hiByte b) lo.2.c
  (mkWord hi.1 lo.1, { f with y := hi.1.getLsbD 5, h := hi.2.h, x := hi.1.getLsbD 3, n := false, c := hi.2.c })

/-- `adcWord(a, b, cin)`: the high byte's flags, but fZ of all 16 bits (R161). -/
def adcWord (a b : Word) (cin : Bool) : Word × Flags :=
  let lo := addByte (loByte a) (loByte b) cin
  let hi := addByte (hiByte a) (hiByte b) lo.2.c
  (mkWord hi.1 lo.1, { hi.2 with z := mkWord hi.1 lo.1 == 0 })

/-- `sbcWord(a, b, cin)`: the high byte's flags, but fZ of all 16 bits (R162). -/
def sbcWord (a b : Word) (cin : Bool) : Word × Flags :=
  let lo := subByte (loByte a) (loByte b) cin
  let hi := subByte (hiByte a) (hiByte b) lo.2.c
  (mkWord hi.1 lo.1, { hi.2 with z := mkWord hi.1 lo.1 == 0 })

/-- `addr_reg = a+1`, the side effect of the 16-bit helpers (R160 to R162). -/
def wordAddrReg (a : Word) : Word := a + 1

/-- The correction of DAA: 0x06 and 0x60 by the two tests on A before correction (R163). -/
def bcdCorrection (a : Byte) (f : Flags) : Byte :=
  (if f.h || decide (a.toNat % 16 > 9) then 0x06 else 0) ||| (if f.c || decide (a.toNat > 0x99) then 0x60 else 0)

/-- `bcdCorrect(A, fH, fN, fC)`: fN is kept (R163). -/
def bcdCorrect (a : Byte) (f : Flags) : Byte × Flags :=
  let g := if f.n then subByte a (bcdCorrection a f) false else addByte a (bcdCorrection a f) false
  (g.1, flagsOf g.1 g.2.h (parityEven g.1) f.n (f.c || decide (a.toNat > 0x99)))

/-- The bit mask `1 << b`. -/
def bitMask (b : Fin 8) : Byte := 1 <<< b.val

/-- `bitTest(b, v, xysrc)`: fC is kept, fY and fX come from `xysrc` (R164). -/
def bitTest (f : Flags) (b : Fin 8) (v xysrc : Byte) : Flags :=
  let t := v &&& bitMask b
  { s := t.getLsbD 7, z := t == 0, y := xysrc.getLsbD 5, h := true, x := xysrc.getLsbD 3, pv := parityEven t, n := false
    c := f.c }

/-- The flags of a byte brought into a register by `IN r,(C)`, RLD or RRD: fC is kept (R432, R448). -/
def loadFlags (f : Flags) (v : Byte) : Flags := flagsOf v false (parityEven v) false f.c

/-- The flags of `LD A,I` and `LD A,R`: fPV is IFF2, fC is kept (R446). -/
def vectorFlags (f : Flags) (v : Byte) (iff2 : Bool) : Flags := flagsOf v false iff2 false f.c

/-- The flags of a block-copy iteration from `n = A + v` (46_extended.md, section 6). -/
def copyFlags (f : Flags) (n : Byte) (more : Bool) : Flags :=
  { f with y := n.getLsbD 1, h := false, x := n.getLsbD 3, pv := more, n := false }

/-- The flags of a block-compare iteration: those of A - v, with fY and fX from the result less the half-carry (46_extended.md,
section 7). -/
def blockCompareFlags (f : Flags) (a v : Byte) (more : Bool) : Flags :=
  let g := subByte a v false
  let n := g.1 - BitVec.ofNat 8 g.2.h.toNat
  { s := g.2.s, z := g.2.z, y := n.getLsbD 1, h := g.2.h, x := n.getLsbD 3, pv := more, n := true, c := f.c }

/-- The flags of a block-I/O iteration: fZ from the counter and fN only (46_extended.md, section 8). -/
def blockIoFlags (f : Flags) (counter : Byte) : Flags := { f with z := counter == 0, n := true }

end Sys2Proof.Machine
end

