-- ==== Sys2Proof/Machine/Control.lean ====
section
/-! DEFINITION. Meanings of 43_base_control.md: control transfer, accumulator port I/O, halt and interrupt enable. No flag
and no `addr_reg` is written. A taken branch, call or return adds its surcharge (70_reset_and_hazards.md R616). -/

namespace Sys2Proof.Machine

/-- `NOP` (R300). -/
def execNop (s : State) : Host.Outcome State Fault Refusal :=
  .next s

/-- `JP nn` (R301). -/
def execJp (nn : Word) (s : State) : Host.Outcome State Fault Refusal :=
  .next (s.jump nn)

/-- `JP cc,nn`: no surcharge (R302). -/
def execJpCc (cc : Cond) (nn : Word) (s : State) : Host.Outcome State Fault Refusal :=
  .next (if s.f.holds cc then s.jump nn else s)

/-- `JR e`: relative to the PC past the instruction; no surcharge (R303, R616). -/
def execJr (e : Byte) (s : State) : Host.Outcome State Fault Refusal :=
  .next (s.jump (displace s.pc e))

/-- `JR cc,e` (R304). -/
def execJrCc (cc : Cond) (e : Byte) (s : State) : Host.Outcome State Fault Refusal :=
  .next (if s.f.holds cc then (s.jump (displace s.pc e)).surcharge 5 else s)

/-- `DJNZ e`: B wraps; the jump is taken unless B becomes 0 (R305). -/
def execDjnz (e : Byte) (s : State) : Host.Outcome State Fault Refusal :=
  .next
    (if s.b - 1 = 0 then { s with b := s.b - 1 }
    else (({ s with b := s.b - 1 } : State).jump (displace s.pc e)).surcharge 5)

/-- `JP (HL)`: HL is the target, no memory read (R311). -/
def execJpHl (s : State) : Host.Outcome State Fault Refusal :=
  .next (s.jump s.hl)

/-- `CALL nn` (R306). -/
def execCall (nn : Word) (s : State) : Host.Outcome State Fault Refusal :=
  .next (s.callTo nn)

/-- `CALL cc,nn` (R307). -/
def execCallCc (cc : Cond) (nn : Word) (s : State) : Host.Outcome State Fault Refusal :=
  .next (if s.f.holds cc then (s.callTo nn).surcharge 7 else s)

/-- `RET` (R308). -/
def execRet (s : State) : Host.Outcome State Fault Refusal :=
  .next s.returnPc

/-- `RET cc` (R309). -/
def execRetCc (cc : Cond) (s : State) : Host.Outcome State Fault Refusal :=
  .next (if s.f.holds cc then s.returnPc.surcharge 6 else s)

/-- `RST p` (R310). -/
def execRst (p : Byte) (s : State) : Host.Outcome State Fault Refusal :=
  .next (s.callTo (p.zeroExtend 16))

/-- `OUT (n),A` (R312). -/
def execOutNA (n : Byte) (s : State) : Host.Outcome State Fault Refusal :=
  .next (s.portOut n s.a)

/-- `IN A,(n)` (R313). -/
def execInAN (n : Byte) (s : State) : Host.Outcome State Fault Refusal :=
  .next ((s.sawPortIn n).setA (s.portValue n))

/-- `HALT` (R314). -/
def execHalt (s : State) : Host.Outcome State Fault Refusal :=
  .next { s with halted := true }

/-- `DI`: cancels a running EI delay (R315). -/
def execDi (s : State) : Host.Outcome State Fault Refusal :=
  .next { s with iff1 := false, iff2 := false, eiDelay := 0 }

/-- `EI`: loads the delay with `EI_DELAY`, the flip-flops change later (R316, R507). -/
def execEi (s : State) : Host.Outcome State Fault Refusal :=
  .next { s with eiDelay := s.params.eiDelay }

end Sys2Proof.Machine
end

