-- ==== Sys2Proof/Machine/Extended.lean ====
section
/-! DEFINITION. Meanings of 46_extended.md: the ED table. A repeating block instruction does one iteration a step and rewinds
PC by 2 while its condition holds (R431). -/

namespace Sys2Proof.Machine

/-! ### Port I/O through C -/

/-- `IN r,(C)` (R432). -/
def execInRC (r : Reg8) (s : State) : Host.Outcome State Fault Refusal :=
  .next (((s.sawPortIn s.c).setReg8 r (s.portValue s.c)).setFlags (loadFlags s.f (s.portValue s.c)))

/-- `OUT (C),r` (R433). -/
def execOutCR (r : Reg8) (s : State) : Host.Outcome State Fault Refusal :=
  .next (s.portOut s.c (s.reg8 r))

/-! ### Sixteen-bit arithmetic and loads -/

/-- `SBC HL,rp` (R434). -/
def execSbcHlRp (p : RPair) (s : State) : Host.Outcome State Fault Refusal :=
  .next
    (((s.setHl (sbcWord s.hl (s.rp p) s.f.c).1).setFlags (sbcWord s.hl (s.rp p) s.f.c).2).setAddrReg (wordAddrReg s.hl))

/-- `ADC HL,rp` (R435). -/
def execAdcHlRp (p : RPair) (s : State) : Host.Outcome State Fault Refusal :=
  .next
    (((s.setHl (adcWord s.hl (s.rp p) s.f.c).1).setFlags (adcWord s.hl (s.rp p) s.f.c).2).setAddrReg (wordAddrReg s.hl))

/-- `LD (nn),rp` (R436). -/
def execLdAbsRp (nn : Word) (p : RPair) (s : State) : Host.Outcome State Fault Refusal :=
  .next (s.writeWord nn (s.rp p))

/-- `LD rp,(nn)` (R437). -/
def execLdRpAbs (p : RPair) (nn : Word) (s : State) : Host.Outcome State Fault Refusal :=
  .next ((s.sawRead16 nn).setRp p (s.peek16 nn))

/-! ### Accumulator and interrupt control -/

/-- `NEG` (R438). -/
def execNeg (s : State) : Host.Outcome State Fault Refusal :=
  .next ((s.setA (subByte 0 s.a false).1).setFlags (subByte 0 s.a false).2)

/-- `RETN` (R439). -/
def execRetn (s : State) : Host.Outcome State Fault Refusal :=
  .next s.returnNmi

/-- `RETI`: a plain return (R440). -/
def execReti (s : State) : Host.Outcome State Fault Refusal :=
  .next s.returnPc

/-- `IM 0` (R441). -/
def execIm0 (s : State) : Host.Outcome State Fault Refusal :=
  .next { s with im := 0 }

/-- `IM 1` (R442). -/
def execIm1 (s : State) : Host.Outcome State Fault Refusal :=
  .next { s with im := 1 }

/-- `IM 2` (R443). -/
def execIm2 (s : State) : Host.Outcome State Fault Refusal :=
  .next { s with im := 2 }

/-- `LD I,A` (R444). -/
def execLdIA (s : State) : Host.Outcome State Fault Refusal :=
  .next { s with i := s.a }

/-- `LD R,A`: all eight bits; the step's increment came before (R445). -/
def execLdRA (s : State) : Host.Outcome State Fault Refusal :=
  .next { s with r := s.a }

/-- `LD A,I` (R446). -/
def execLdAI (s : State) : Host.Outcome State Fault Refusal :=
  .next ((s.setA s.i).setFlags (vectorFlags s.f s.i s.iff2))

/-- `LD A,R`: R already holds the step's increment (R447). -/
def execLdAR (s : State) : Host.Outcome State Fault Refusal :=
  .next ((s.setA s.r).setFlags (vectorFlags s.f s.r s.iff2))

/-! ### Nibble rotates -/

/-- What RLD and RRD share: the byte at HL is read, then written, then A and its flags (R448, R449). -/
def State.nibbleRotate (s : State) (mem acc : Byte) : State :=
  (((s.sawRead s.hl).writeByte s.hl mem).setA acc).setFlags (loadFlags s.f acc)

/-- `RLD` (R448). -/
def execRld (s : State) : Host.Outcome State Fault Refusal :=
  .next
    (s.nibbleRotate ((s.peek s.hl <<< 4) ||| (s.a &&& 0x0F)) ((s.a &&& 0xF0) ||| (s.peek s.hl >>> 4)))

/-- `RRD` (R449). -/
def execRrd (s : State) : Host.Outcome State Fault Refusal :=
  .next
    (s.nibbleRotate (((s.a &&& 0x0F) <<< 4) ||| (s.peek s.hl >>> 4)) ((s.a &&& 0xF0) ||| (s.peek s.hl &&& 0x0F)))

/-! ### Block instructions: `dir` is +1 or -1 -/

/-- The copy iteration `copy(dir)` (46_extended.md, section 6). -/
def State.blockCopy (s : State) (dir : Word) : State :=
  (((((s.sawRead s.hl).writeByte s.de (s.peek s.hl)).setHl (s.hl + dir)).setDe (s.de + dir)).setBc (s.bc - 1)).setFlags
    (copyFlags s.f (s.a + s.peek s.hl) (s.bc - 1 != 0))

/-- The compare iteration `cmpb(dir)` (46_extended.md, section 7). -/
def State.blockCompare (s : State) (dir : Word) : State :=
  ((((s.sawRead s.hl).setHl (s.hl + dir)).setBc (s.bc - 1)).setAddrReg (s.addrReg + dir)).setFlags
    (blockCompareFlags s.f s.a (s.peek s.hl) (s.bc - 1 != 0))

/-- What follows the transfer of a block-I/O iteration: HL, B, `addr_reg`, fZ and fN (46_extended.md, section 8). -/
def State.blockIoStep (s : State) (dir : Word) : State :=
  (({ s.setHl (s.hl + dir) with b := s.b - 1 } : State).setAddrReg (s.addrReg + dir)).setFlags (blockIoFlags s.f (s.b - 1))

/-- The input iteration `ini(dir)`: portIn, then the write (46_extended.md, section 8). -/
def State.blockIn (s : State) (dir : Word) : State :=
  ((s.sawPortIn s.c).writeByte s.hl (s.portValue s.c)).blockIoStep dir

/-- The output iteration `outi(dir)`: the read, then portOut (46_extended.md, section 8). -/
def State.blockOut (s : State) (dir : Word) : State :=
  ((s.sawRead s.hl).portOut s.c (s.peek s.hl)).blockIoStep dir

/-- The repetition: rewind while the condition holds (R431). -/
def State.repeatWhile (s : State) (again : Bool) : State := if again then s.rewind else s

/-- LDIR and LDDR go on while BC is not 0 (R431). -/
def State.moreBc (s : State) : Bool := s.bc != 0

/-- CPIR and CPDR go on while BC is not 0 and there is no match (R431). -/
def State.moreSearch (s : State) : Bool := s.bc != 0 && !s.f.z

/-- The repeating block I/O instructions go on while B is not 0 (R431). -/
def State.moreB (s : State) : Bool := s.b != 0

/-- `LDI` (R450). -/
def execLdi (s : State) : Host.Outcome State Fault Refusal :=
  .next (s.blockCopy 1)

/-- `LDD` (R451). -/
def execLdd (s : State) : Host.Outcome State Fault Refusal :=
  .next (s.blockCopy (-1))

/-- `CPI` (R454). -/
def execCpi (s : State) : Host.Outcome State Fault Refusal :=
  .next (s.blockCompare 1)

/-- `CPD` (R455). -/
def execCpd (s : State) : Host.Outcome State Fault Refusal :=
  .next (s.blockCompare (-1))

/-- `INI` (R458). -/
def execIni (s : State) : Host.Outcome State Fault Refusal :=
  .next (s.blockIn 1)

/-- `IND` (R459). -/
def execInd (s : State) : Host.Outcome State Fault Refusal :=
  .next (s.blockIn (-1))

/-- `OUTI` (R462). -/
def execOuti (s : State) : Host.Outcome State Fault Refusal :=
  .next (s.blockOut 1)

/-- `OUTD` (R463). -/
def execOutd (s : State) : Host.Outcome State Fault Refusal :=
  .next (s.blockOut (-1))

/-- `LDIR` (R452). -/
def execLdir (s : State) : Host.Outcome State Fault Refusal :=
  .next ((s.blockCopy 1).repeatWhile (s.blockCopy 1).moreBc)

/-- `LDDR` (R453). -/
def execLddr (s : State) : Host.Outcome State Fault Refusal :=
  .next ((s.blockCopy (-1)).repeatWhile (s.blockCopy (-1)).moreBc)

/-- `CPIR` (R456). -/
def execCpir (s : State) : Host.Outcome State Fault Refusal :=
  .next ((s.blockCompare 1).repeatWhile (s.blockCompare 1).moreSearch)

/-- `CPDR` (R457). -/
def execCpdr (s : State) : Host.Outcome State Fault Refusal :=
  .next ((s.blockCompare (-1)).repeatWhile (s.blockCompare (-1)).moreSearch)

/-- `INIR` (R460). -/
def execInir (s : State) : Host.Outcome State Fault Refusal :=
  .next ((s.blockIn 1).repeatWhile (s.blockIn 1).moreB)

/-- `INDR` (R461). -/
def execIndr (s : State) : Host.Outcome State Fault Refusal :=
  .next ((s.blockIn (-1)).repeatWhile (s.blockIn (-1)).moreB)

/-- `OTIR` (R464). -/
def execOtir (s : State) : Host.Outcome State Fault Refusal :=
  .next ((s.blockOut 1).repeatWhile (s.blockOut 1).moreB)

/-- `OTDR` (R465). -/
def execOtdr (s : State) : Host.Outcome State Fault Refusal :=
  .next ((s.blockOut (-1)).repeatWhile (s.blockOut (-1)).moreB)

/-! ### Unknown entries -/

/-- An unknown extended opcode: a no-op that emits a diagnostic (R466). -/
def execUnknownEd (op : Byte) (s : State) : Host.Outcome State Fault Refusal :=
  .next (s.diag (.unknownExtendedOpcode op))

end Sys2Proof.Machine
end

