-- ==== Sys2Proof/Machine/Arith.lean ====
section
/-! DEFINITION. Meanings of 42_base_arith.md: arithmetic, logic and accumulator operations over the helpers of
40_alu_flags.md. Only `ADD HL,rp` writes `addr_reg`. -/

namespace Sys2Proof.Machine

/-! ### The eight ALU operations against A (R250) -/

/-- `alu[y]` with an operand value: A and the flags (R251 to R258). -/
def State.alu (s : State) (op : AluOp) (v : Byte) : State :=
  { s with a := (aluByte op s.f s.a v).1, f := (aluByte op s.f s.a v).2 }

/-- `ADD A,r` (R251). -/
def execAddR (r : Reg8) (s : State) : Host.Outcome State Fault Refusal :=
  .next (s.alu .add (s.reg8 r))

/-- `ADD A,(HL)` (R251). -/
def execAddM (s : State) : Host.Outcome State Fault Refusal :=
  .next ((s.sawRead s.hl).alu .add (s.peek s.hl))

/-- `ADD A,n` (R251). -/
def execAddN (n : Byte) (s : State) : Host.Outcome State Fault Refusal :=
  .next (s.alu .add n)

/-- `ADC A,r` (R252). -/
def execAdcR (r : Reg8) (s : State) : Host.Outcome State Fault Refusal :=
  .next (s.alu .adc (s.reg8 r))

/-- `ADC A,(HL)` (R252). -/
def execAdcM (s : State) : Host.Outcome State Fault Refusal :=
  .next ((s.sawRead s.hl).alu .adc (s.peek s.hl))

/-- `ADC A,n` (R252). -/
def execAdcN (n : Byte) (s : State) : Host.Outcome State Fault Refusal :=
  .next (s.alu .adc n)

/-- `SUB r` (R253). -/
def execSubR (r : Reg8) (s : State) : Host.Outcome State Fault Refusal :=
  .next (s.alu .sub (s.reg8 r))

/-- `SUB (HL)` (R253). -/
def execSubM (s : State) : Host.Outcome State Fault Refusal :=
  .next ((s.sawRead s.hl).alu .sub (s.peek s.hl))

/-- `SUB n` (R253). -/
def execSubN (n : Byte) (s : State) : Host.Outcome State Fault Refusal :=
  .next (s.alu .sub n)

/-- `SBC A,r` (R254). -/
def execSbcR (r : Reg8) (s : State) : Host.Outcome State Fault Refusal :=
  .next (s.alu .sbc (s.reg8 r))

/-- `SBC A,(HL)` (R254). -/
def execSbcM (s : State) : Host.Outcome State Fault Refusal :=
  .next ((s.sawRead s.hl).alu .sbc (s.peek s.hl))

/-- `SBC A,n` (R254). -/
def execSbcN (n : Byte) (s : State) : Host.Outcome State Fault Refusal :=
  .next (s.alu .sbc n)

/-- `AND r` (R255). -/
def execAndR (r : Reg8) (s : State) : Host.Outcome State Fault Refusal :=
  .next (s.alu .and (s.reg8 r))

/-- `AND (HL)` (R255). -/
def execAndM (s : State) : Host.Outcome State Fault Refusal :=
  .next ((s.sawRead s.hl).alu .and (s.peek s.hl))

/-- `AND n` (R255). -/
def execAndN (n : Byte) (s : State) : Host.Outcome State Fault Refusal :=
  .next (s.alu .and n)

/-- `XOR r` (R256). -/
def execXorR (r : Reg8) (s : State) : Host.Outcome State Fault Refusal :=
  .next (s.alu .xor (s.reg8 r))

/-- `XOR (HL)` (R256). -/
def execXorM (s : State) : Host.Outcome State Fault Refusal :=
  .next ((s.sawRead s.hl).alu .xor (s.peek s.hl))

/-- `XOR n` (R256). -/
def execXorN (n : Byte) (s : State) : Host.Outcome State Fault Refusal :=
  .next (s.alu .xor n)

/-- `OR r` (R257). -/
def execOrR (r : Reg8) (s : State) : Host.Outcome State Fault Refusal :=
  .next (s.alu .or (s.reg8 r))

/-- `OR (HL)` (R257). -/
def execOrM (s : State) : Host.Outcome State Fault Refusal :=
  .next ((s.sawRead s.hl).alu .or (s.peek s.hl))

/-- `OR n` (R257). -/
def execOrN (n : Byte) (s : State) : Host.Outcome State Fault Refusal :=
  .next (s.alu .or n)

/-- `CP r` (R258). -/
def execCpR (r : Reg8) (s : State) : Host.Outcome State Fault Refusal :=
  .next (s.alu .cp (s.reg8 r))

/-- `CP (HL)` (R258). -/
def execCpM (s : State) : Host.Outcome State Fault Refusal :=
  .next ((s.sawRead s.hl).alu .cp (s.peek s.hl))

/-- `CP n` (R258). -/
def execCpN (n : Byte) (s : State) : Host.Outcome State Fault Refusal :=
  .next (s.alu .cp n)

/-! ### Increment and decrement -/

/-- Read the byte at an address, write `g` of it back, write its flags: one read, then one write (R260, R262, R366, R367). -/
def State.modifyByte (s : State) (addr : Word) (g : Byte → Byte × Flags) : State :=
  ((s.sawRead addr).writeByte addr (g (s.peek addr)).1).setFlags (g (s.peek addr)).2

/-- `INC r` (R259). -/
def execIncR (r : Reg8) (s : State) : Host.Outcome State Fault Refusal :=
  .next ((s.setReg8 r (incByte s.f (s.reg8 r)).1).setFlags (incByte s.f (s.reg8 r)).2)

/-- `INC (HL)` (R260). -/
def execIncM (s : State) : Host.Outcome State Fault Refusal :=
  .next (s.modifyByte s.hl (incByte s.f))

/-- `DEC r` (R261). -/
def execDecR (r : Reg8) (s : State) : Host.Outcome State Fault Refusal :=
  .next ((s.setReg8 r (decByte s.f (s.reg8 r)).1).setFlags (decByte s.f (s.reg8 r)).2)

/-- `DEC (HL)` (R262). -/
def execDecM (s : State) : Host.Outcome State Fault Refusal :=
  .next (s.modifyByte s.hl (decByte s.f))

/-- `INC rp` (R263): no flag. -/
def execIncRp (p : RPair) (s : State) : Host.Outcome State Fault Refusal :=
  .next (s.setRp p (s.rp p + 1))

/-- `DEC rp` (R264): no flag. -/
def execDecRp (p : RPair) (s : State) : Host.Outcome State Fault Refusal :=
  .next (s.setRp p (s.rp p - 1))

/-! ### Sixteen-bit add -/

/-- `ADD HL,rp` (R265). -/
def execAddHlRp (p : RPair) (s : State) : Host.Outcome State Fault Refusal :=
  .next
    (((s.setHl (addWord s.f s.hl (s.rp p)).1).setFlags (addWord s.f s.hl (s.rp p)).2).setAddrReg (wordAddrReg s.hl))

/-! ### Accumulator operations -/

/-- `DAA` (R266). -/
def execDaa (s : State) : Host.Outcome State Fault Refusal :=
  .next ((s.setA (bcdCorrect s.a s.f).1).setFlags (bcdCorrect s.a s.f).2)

/-- `CPL` (R267). -/
def execCpl (s : State) : Host.Outcome State Fault Refusal :=
  .next
    ((s.setA (~~~s.a)).setFlags
      { s.f with y := (~~~s.a).getLsbD 5, h := true, x := (~~~s.a).getLsbD 3, n := true })

/-- `SCF` (R268). -/
def execScf (s : State) : Host.Outcome State Fault Refusal :=
  .next (s.setFlags { s.f with y := s.a.getLsbD 5, h := false, x := s.a.getLsbD 3, n := false, c := true })

/-- `CCF` (R269). -/
def execCcf (s : State) : Host.Outcome State Fault Refusal :=
  .next (s.setFlags { s.f with y := s.a.getLsbD 5, h := s.f.c, x := s.a.getLsbD 3, n := false, c := !s.f.c })

/-- A rotate of A: only fY, fH, fX, fN and fC are written (R270 to R273). -/
def State.rotA (s : State) (k : Rot) : State :=
  (s.setA (rotResult k s.a s.f.c)).setFlags (accRotFlags s.f (rotResult k s.a s.f.c) (rotCarry k s.a))

/-- `RLCA` (R270). -/
def execRlca (s : State) : Host.Outcome State Fault Refusal :=
  .next (s.rotA .rlc)

/-- `RRCA` (R271). -/
def execRrca (s : State) : Host.Outcome State Fault Refusal :=
  .next (s.rotA .rrc)

/-- `RLA` (R272). -/
def execRla (s : State) : Host.Outcome State Fault Refusal :=
  .next (s.rotA .rl)

/-- `RRA` (R273). -/
def execRra (s : State) : Host.Outcome State Fault Refusal :=
  .next (s.rotA .rr)

end Sys2Proof.Machine
end

