-- ==== Sys2Proof/Machine/Bits.lean ====
section
/-! DEFINITION. Meanings of 45_bit_ops.md: the CB table on registers and `(HL)`, and the displaced-bit table, whose operand
is always the byte at the effective address, whatever its z field is (R412). -/

namespace Sys2Proof.Machine

/-! ### The CB table (R400) -/

/-- A rotate or shift of a register, with the flags of `rotShift` (R401 to R408). -/
def State.rotReg (s : State) (k : Rot) (r : Reg8) : State :=
  (s.setReg8 r (rotShift k (s.reg8 r) s.f.c).1).setFlags (rotShift k (s.reg8 r) s.f.c).2

/-- A rotate or shift of a memory byte: one read, then one write (R400, R413). -/
def State.rotMem (s : State) (k : Rot) (addr : Word) : State := s.modifyByte addr fun v => rotShift k v s.f.c

/-- Read a memory byte and write `g` of it back, no flag (R410, R411, R415, R416). -/
def State.mapByte (s : State) (addr : Word) (g : Byte → Byte) : State :=
  (s.sawRead addr).writeByte addr (g (s.peek addr))

/-- `v & ~(1 << b)` (R410). -/
def clearBit (b : Fin 8) (v : Byte) : Byte := v &&& ~~~bitMask b

/-- `v | (1 << b)` (R411). -/
def raiseBit (b : Fin 8) (v : Byte) : Byte := v ||| bitMask b

/-- BIT on a memory byte: one read, no write; fY and fX from `addr_reg[15:8]` (R409, R414). -/
def State.testMem (s : State) (b : Fin 8) (addr : Word) : State :=
  (s.sawRead addr).setFlags (bitTest s.f b (s.peek addr) (hiByte s.addrReg))

/-- `RLC r` (R401). -/
def execRlcR (r : Reg8) (s : State) : Host.Outcome State Fault Refusal :=
  .next (s.rotReg .rlc r)

/-- `RLC (HL)` (R401). -/
def execRlcM (s : State) : Host.Outcome State Fault Refusal :=
  .next (s.rotMem .rlc s.hl)

/-- `RRC r` (R402). -/
def execRrcR (r : Reg8) (s : State) : Host.Outcome State Fault Refusal :=
  .next (s.rotReg .rrc r)

/-- `RRC (HL)` (R402). -/
def execRrcM (s : State) : Host.Outcome State Fault Refusal :=
  .next (s.rotMem .rrc s.hl)

/-- `RL r` (R403). -/
def execRlR (r : Reg8) (s : State) : Host.Outcome State Fault Refusal :=
  .next (s.rotReg .rl r)

/-- `RL (HL)` (R403). -/
def execRlM (s : State) : Host.Outcome State Fault Refusal :=
  .next (s.rotMem .rl s.hl)

/-- `RR r` (R404). -/
def execRrR (r : Reg8) (s : State) : Host.Outcome State Fault Refusal :=
  .next (s.rotReg .rr r)

/-- `RR (HL)` (R404). -/
def execRrM (s : State) : Host.Outcome State Fault Refusal :=
  .next (s.rotMem .rr s.hl)

/-- `SLA r` (R405). -/
def execSlaR (r : Reg8) (s : State) : Host.Outcome State Fault Refusal :=
  .next (s.rotReg .sla r)

/-- `SLA (HL)` (R405). -/
def execSlaM (s : State) : Host.Outcome State Fault Refusal :=
  .next (s.rotMem .sla s.hl)

/-- `SRA r` (R406). -/
def execSraR (r : Reg8) (s : State) : Host.Outcome State Fault Refusal :=
  .next (s.rotReg .sra r)

/-- `SRA (HL)` (R406). -/
def execSraM (s : State) : Host.Outcome State Fault Refusal :=
  .next (s.rotMem .sra s.hl)

/-- `SLL r` (R407). -/
def execSllR (r : Reg8) (s : State) : Host.Outcome State Fault Refusal :=
  .next (s.rotReg .sll r)

/-- `SLL (HL)` (R407). -/
def execSllM (s : State) : Host.Outcome State Fault Refusal :=
  .next (s.rotMem .sll s.hl)

/-- `SRL r` (R408). -/
def execSrlR (r : Reg8) (s : State) : Host.Outcome State Fault Refusal :=
  .next (s.rotReg .srl r)

/-- `SRL (HL)` (R408). -/
def execSrlM (s : State) : Host.Outcome State Fault Refusal :=
  .next (s.rotMem .srl s.hl)

/-- `BIT b,r`: fY and fX from the register (R409). -/
def execBitR (b : Fin 8) (r : Reg8) (s : State) : Host.Outcome State Fault Refusal :=
  .next (s.setFlags (bitTest s.f b (s.reg8 r) (s.reg8 r)))

/-- `BIT b,(HL)`: `addr_reg` is read, not written (R409). -/
def execBitM (b : Fin 8) (s : State) : Host.Outcome State Fault Refusal :=
  .next (s.testMem b s.hl)

/-- `RES b,r` (R410). -/
def execResR (b : Fin 8) (r : Reg8) (s : State) : Host.Outcome State Fault Refusal :=
  .next (s.setReg8 r (clearBit b (s.reg8 r)))

/-- `RES b,(HL)` (R410). -/
def execResM (b : Fin 8) (s : State) : Host.Outcome State Fault Refusal :=
  .next (s.mapByte s.hl (clearBit b))

/-- `SET b,r` (R411). -/
def execSetR (b : Fin 8) (r : Reg8) (s : State) : Host.Outcome State Fault Refusal :=
  .next (s.setReg8 r (raiseBit b (s.reg8 r)))

/-- `SET b,(HL)` (R411). -/
def execSetM (b : Fin 8) (s : State) : Host.Outcome State Fault Refusal :=
  .next (s.mapByte s.hl (raiseBit b))

/-! ### The displaced-bit table (R412): the effective address is formed and recorded first -/

/-- `RLC (XY+d)` (R413): no register is written, whatever z is. -/
def execRlcXyD (xy : Idx) (d : Byte) (_z : Fin 8) (s : State) : Host.Outcome State Fault Refusal :=
  .next ((s.formEa xy d).rotMem .rlc (s.ea xy d))

/-- `RRC (XY+d)` (R413): no register is written, whatever z is. -/
def execRrcXyD (xy : Idx) (d : Byte) (_z : Fin 8) (s : State) : Host.Outcome State Fault Refusal :=
  .next ((s.formEa xy d).rotMem .rrc (s.ea xy d))

/-- `RL (XY+d)` (R413): no register is written, whatever z is. -/
def execRlXyD (xy : Idx) (d : Byte) (_z : Fin 8) (s : State) : Host.Outcome State Fault Refusal :=
  .next ((s.formEa xy d).rotMem .rl (s.ea xy d))

/-- `RR (XY+d)` (R413): no register is written, whatever z is. -/
def execRrXyD (xy : Idx) (d : Byte) (_z : Fin 8) (s : State) : Host.Outcome State Fault Refusal :=
  .next ((s.formEa xy d).rotMem .rr (s.ea xy d))

/-- `SLA (XY+d)` (R413): no register is written, whatever z is. -/
def execSlaXyD (xy : Idx) (d : Byte) (_z : Fin 8) (s : State) : Host.Outcome State Fault Refusal :=
  .next ((s.formEa xy d).rotMem .sla (s.ea xy d))

/-- `SRA (XY+d)` (R413): no register is written, whatever z is. -/
def execSraXyD (xy : Idx) (d : Byte) (_z : Fin 8) (s : State) : Host.Outcome State Fault Refusal :=
  .next ((s.formEa xy d).rotMem .sra (s.ea xy d))

/-- `SLL (XY+d)` (R413): no register is written, whatever z is. -/
def execSllXyD (xy : Idx) (d : Byte) (_z : Fin 8) (s : State) : Host.Outcome State Fault Refusal :=
  .next ((s.formEa xy d).rotMem .sll (s.ea xy d))

/-- `SRL (XY+d)` (R413): no register is written, whatever z is. -/
def execSrlXyD (xy : Idx) (d : Byte) (_z : Fin 8) (s : State) : Host.Outcome State Fault Refusal :=
  .next ((s.formEa xy d).rotMem .srl (s.ea xy d))

/-- `BIT b,(XY+d)`: fY and fX from the effective address's high byte (R414). -/
def execBitXyD (xy : Idx) (d : Byte) (b _z : Fin 8) (s : State) : Host.Outcome State Fault Refusal :=
  .next ((s.formEa xy d).testMem b (s.ea xy d))

/-- `RES b,(XY+d)` (R415). -/
def execResXyD (xy : Idx) (d : Byte) (b _z : Fin 8) (s : State) : Host.Outcome State Fault Refusal :=
  .next ((s.formEa xy d).mapByte (s.ea xy d) (clearBit b))

/-- `SET b,(XY+d)` (R416). -/
def execSetXyD (xy : Idx) (d : Byte) (b _z : Fin 8) (s : State) : Host.Outcome State Fault Refusal :=
  .next ((s.formEa xy d).mapByte (s.ea xy d) (raiseBit b))

end Sys2Proof.Machine
end

