-- ==== Sys2Proof/Machine/Index.lean ====
section
/-! DEFINITION. Meanings of 44_index.md: the index-prefixed table for IX and IY. A displaced operand's address is formed and
recorded in `addr_reg` first (R351). The fallback and the prefix rows stand in Machine/Prefix.lean. -/

namespace Sys2Proof.Machine

/-- `LD XY,nn` (R354). -/
def execLdXyImm (xy : Idx) (nn : Word) (s : State) : Host.Outcome State Fault Refusal :=
  .next (s.setXy xy nn)

/-- `LD (nn),XY` (R355). -/
def execLdAbsXy (xy : Idx) (nn : Word) (s : State) : Host.Outcome State Fault Refusal :=
  .next (s.writeWord nn (s.xy xy))

/-- `LD XY,(nn)` (R356). -/
def execLdXyAbs (xy : Idx) (nn : Word) (s : State) : Host.Outcome State Fault Refusal :=
  .next ((s.sawRead16 nn).setXy xy (s.peek16 nn))

/-- `INC XY`: no flag (R357). -/
def execIncXy (xy : Idx) (s : State) : Host.Outcome State Fault Refusal :=
  .next (s.setXy xy (s.xy xy + 1))

/-- `DEC XY`: no flag (R358). -/
def execDecXy (xy : Idx) (s : State) : Host.Outcome State Fault Refusal :=
  .next (s.setXy xy (s.xy xy - 1))

/-- `ADD XY,rp` (R359). -/
def execAddXyRp (xy : Idx) (p : XPair) (s : State) : Host.Outcome State Fault Refusal :=
  .next
    (((s.setXy xy (addWord s.f (s.xy xy) (s.xpair xy p)).1).setFlags (addWord s.f (s.xy xy) (s.xpair xy p)).2).setAddrReg
      (wordAddrReg (s.xy xy)))

/-- `INC XYH` (R360). -/
def execIncXyH (xy : Idx) (s : State) : Host.Outcome State Fault Refusal :=
  .next ((s.setXyH xy (incByte s.f (s.xyH xy)).1).setFlags (incByte s.f (s.xyH xy)).2)

/-- `DEC XYH` (R361). -/
def execDecXyH (xy : Idx) (s : State) : Host.Outcome State Fault Refusal :=
  .next ((s.setXyH xy (decByte s.f (s.xyH xy)).1).setFlags (decByte s.f (s.xyH xy)).2)

/-- `LD XYH,n` (R362). -/
def execLdXyHN (xy : Idx) (n : Byte) (s : State) : Host.Outcome State Fault Refusal :=
  .next (s.setXyH xy n)

/-- `INC XYL`: no carry into XYH (R363). -/
def execIncXyL (xy : Idx) (s : State) : Host.Outcome State Fault Refusal :=
  .next ((s.setXyL xy (incByte s.f (s.xyL xy)).1).setFlags (incByte s.f (s.xyL xy)).2)

/-- `DEC XYL`: no borrow from XYH (R364). -/
def execDecXyL (xy : Idx) (s : State) : Host.Outcome State Fault Refusal :=
  .next ((s.setXyL xy (decByte s.f (s.xyL xy)).1).setFlags (decByte s.f (s.xyL xy)).2)

/-- `LD XYL,n` (R365). -/
def execLdXyLN (xy : Idx) (n : Byte) (s : State) : Host.Outcome State Fault Refusal :=
  .next (s.setXyL xy n)

/-- `INC (XY+d)` (R366). -/
def execIncXyD (xy : Idx) (d : Byte) (s : State) : Host.Outcome State Fault Refusal :=
  .next ((s.formEa xy d).modifyByte (s.ea xy d) (incByte s.f))

/-- `DEC (XY+d)` (R367). -/
def execDecXyD (xy : Idx) (d : Byte) (s : State) : Host.Outcome State Fault Refusal :=
  .next ((s.formEa xy d).modifyByte (s.ea xy d) (decByte s.f))

/-- `LD (XY+d),n` (R368). -/
def execLdXyDN (xy : Idx) (d n : Byte) (s : State) : Host.Outcome State Fault Refusal :=
  .next ((s.formEa xy d).writeByte (s.ea xy d) n)

/-- `alu XYH` (R369). -/
def execAluXyH (xy : Idx) (op : AluOp) (s : State) : Host.Outcome State Fault Refusal :=
  .next (s.alu op (s.xyH xy))

/-- `alu XYL` (R369). -/
def execAluXyL (xy : Idx) (op : AluOp) (s : State) : Host.Outcome State Fault Refusal :=
  .next (s.alu op (s.xyL xy))

/-- `alu (XY+d)` (R369). -/
def execAluXyD (xy : Idx) (op : AluOp) (d : Byte) (s : State) : Host.Outcome State Fault Refusal :=
  .next (((s.formEa xy d).sawRead (s.ea xy d)).alu op (s.peek (s.ea xy d)))

/-- `LD r,(XY+d)`: H and L are the real ones (R370). -/
def execLdRXyD (xy : Idx) (r : Reg8) (d : Byte) (s : State) : Host.Outcome State Fault Refusal :=
  .next (((s.formEa xy d).sawRead (s.ea xy d)).setReg8 r (s.peek (s.ea xy d)))

/-- `LD (XY+d),r`: H and L are the real ones (R371). -/
def execLdXyDR (xy : Idx) (d : Byte) (r : Reg8) (s : State) : Host.Outcome State Fault Refusal :=
  .next ((s.formEa xy d).writeByte (s.ea xy d) (s.reg8 r))

/-- `LD r',r''` with an index half (R372). -/
def execLdHalf (xy : Idx) (dst src : XReg) (s : State) : Host.Outcome State Fault Refusal :=
  .next (s.setXReg xy dst (s.xreg xy src))

/-- `POP XY` (R373). -/
def execPopXy (xy : Idx) (s : State) : Host.Outcome State Fault Refusal :=
  .next (s.afterPop.setXy xy s.popValue)

/-- `PUSH XY` (R374). -/
def execPushXy (xy : Idx) (s : State) : Host.Outcome State Fault Refusal :=
  .next (s.push16 (s.xy xy))

/-- `EX (SP),XY` (R375). -/
def execExSpXy (xy : Idx) (s : State) : Host.Outcome State Fault Refusal :=
  .next ((s.swapTop (s.xy xy)).setXy xy (s.peek16 s.sp))

/-- `JP (XY)`: no displacement, no memory read (R376). -/
def execJpXy (xy : Idx) (s : State) : Host.Outcome State Fault Refusal :=
  .next (s.jump (s.xy xy))

/-- `LD SP,XY` (R377). -/
def execLdSpXy (xy : Idx) (s : State) : Host.Outcome State Fault Refusal :=
  .next { s with sp := s.xy xy }

end Sys2Proof.Machine
end

