-- ==== Sys2Proof/Machine/Load.lean ====
section
/-! DEFINITION. Meanings of 41_base_load.md: loads, stack and exchanges. No flag is written but by POP AF and EX AF,AF', and
`addr_reg` never. On entry PC is already past the instruction (10_state.md R29); the base cost is added by the driver
(70_reset_and_hazards.md R610). -/

namespace Sys2Proof.Machine

/-- `LD r,r'` (R200). -/
def execLdRR (dst src : Reg8) (s : State) : Host.Outcome State Fault Refusal :=
  .next (s.setReg8 dst (s.reg8 src))

/-- `LD r,n` (R201). -/
def execLdRN (r : Reg8) (n : Byte) (s : State) : Host.Outcome State Fault Refusal :=
  .next (s.setReg8 r n)

/-- `LD r,(HL)` (R202). -/
def execLdRM (r : Reg8) (s : State) : Host.Outcome State Fault Refusal :=
  .next ((s.sawRead s.hl).setReg8 r (s.peek s.hl))

/-- `LD (HL),r` (R203). -/
def execLdMR (r : Reg8) (s : State) : Host.Outcome State Fault Refusal :=
  .next (s.writeByte s.hl (s.reg8 r))

/-- `LD (HL),n` (R204). -/
def execLdMN (n : Byte) (s : State) : Host.Outcome State Fault Refusal :=
  .next (s.writeByte s.hl n)

/-- `LD A,(BC)` (R205). -/
def execLdABc (s : State) : Host.Outcome State Fault Refusal :=
  .next ((s.sawRead s.bc).setA (s.peek s.bc))

/-- `LD A,(DE)` (R206). -/
def execLdADe (s : State) : Host.Outcome State Fault Refusal :=
  .next ((s.sawRead s.de).setA (s.peek s.de))

/-- `LD (BC),A` (R207). -/
def execLdBcA (s : State) : Host.Outcome State Fault Refusal :=
  .next (s.writeByte s.bc s.a)

/-- `LD (DE),A` (R208). -/
def execLdDeA (s : State) : Host.Outcome State Fault Refusal :=
  .next (s.writeByte s.de s.a)

/-- `LD A,(nn)` (R209). -/
def execLdAAbs (nn : Word) (s : State) : Host.Outcome State Fault Refusal :=
  .next ((s.sawRead nn).setA (s.peek nn))

/-- `LD (nn),A` (R210). -/
def execLdAbsA (nn : Word) (s : State) : Host.Outcome State Fault Refusal :=
  .next (s.writeByte nn s.a)

/-- `LD rp,nn` (R211). -/
def execLdRpImm (p : RPair) (nn : Word) (s : State) : Host.Outcome State Fault Refusal :=
  .next (s.setRp p nn)

/-- `LD HL,(nn)` (R212). -/
def execLdHlAbs (nn : Word) (s : State) : Host.Outcome State Fault Refusal :=
  .next ((s.sawRead16 nn).setHl (s.peek16 nn))

/-- `LD (nn),HL` (R213). -/
def execLdAbsHl (nn : Word) (s : State) : Host.Outcome State Fault Refusal :=
  .next (s.writeWord nn s.hl)

/-- `LD SP,HL` (R214). -/
def execLdSpHl (s : State) : Host.Outcome State Fault Refusal :=
  .next { s with sp := s.hl }

/-- `PUSH rp2` (R215). -/
def execPush (p : RPair2) (s : State) : Host.Outcome State Fault Refusal :=
  .next (s.push16 (s.rp2 p))

/-- `POP rp2` (R216). -/
def execPop (p : RPair2) (s : State) : Host.Outcome State Fault Refusal :=
  .next (s.afterPop.setRp2 p s.popValue)

/-- `EX DE,HL` (R217). -/
def execExDeHl (s : State) : Host.Outcome State Fault Refusal :=
  .next ((s.setDe s.hl).setHl s.de)

/-- `EX AF,AF'`: F' is stored packed (R218, R26). -/
def execExAf (s : State) : Host.Outcome State Fault Refusal :=
  .next { s with a := s.a', f := Flags.unpack s.f', a' := s.a, f' := s.f.pack }

/-- `EXX` (R219, R26). -/
def execExx (s : State) : Host.Outcome State Fault Refusal :=
  .next
    { s with
      b := s.b', c := s.c', d := s.d', e := s.e', h := s.h', l := s.l'
      b' := s.b, c' := s.c, d' := s.d, e' := s.e, h' := s.h, l' := s.l }

/-- `EX (SP),HL` (R220). -/
def execExSpHl (s : State) : Host.Outcome State Fault Refusal :=
  .next ((s.swapTop s.hl).setHl (s.peek16 s.sp))

end Sys2Proof.Machine
end

