-- ==== Sys2Proof/Syntax.lean ====
section
/-! DEFINITION. The instructions: one constructor per row of spec/opcode_table.json, in the table's order. Operands are
decoded names, never raw encodings, but for the z field of the displaced-bit rows, which the encoding carries and the
instruction ignores (R113). -/

namespace Sys2Proof

/-- An instruction form of spec/opcode_table.json. `nn` is a 16-bit immediate, `n` an 8-bit one, `e` a relative
offset, `d` an index displacement (30_encoding.md R114 to R117). -/
inductive Instr where
  -- 41_base_load.md
  | ldRR (dst src : Reg8)
  | ldRN (r : Reg8) (n : Byte)
  | ldRM (r : Reg8)
  | ldMR (r : Reg8)
  | ldMN (n : Byte)
  | ldABc
  | ldADe
  | ldBcA
  | ldDeA
  | ldAAbs (nn : Word)
  | ldAbsA (nn : Word)
  | ldRpImm (p : RPair) (nn : Word)
  | ldHlAbs (nn : Word)
  | ldAbsHl (nn : Word)
  | ldSpHl
  | push (p : RPair2)
  | pop (p : RPair2)
  | exDeHl
  | exAf
  | exx
  | exSpHl
  -- 42_base_arith.md
  | addR (r : Reg8)
  | addM
  | addN (n : Byte)
  | adcR (r : Reg8)
  | adcM
  | adcN (n : Byte)
  | subR (r : Reg8)
  | subM
  | subN (n : Byte)
  | sbcR (r : Reg8)
  | sbcM
  | sbcN (n : Byte)
  | andR (r : Reg8)
  | andM
  | andN (n : Byte)
  | xorR (r : Reg8)
  | xorM
  | xorN (n : Byte)
  | orR (r : Reg8)
  | orM
  | orN (n : Byte)
  | cpR (r : Reg8)
  | cpM
  | cpN (n : Byte)
  | incR (r : Reg8)
  | incM
  | decR (r : Reg8)
  | decM
  | incRp (p : RPair)
  | decRp (p : RPair)
  | addHlRp (p : RPair)
  | daa
  | cpl
  | scf
  | ccf
  | rlca
  | rrca
  | rla
  | rra
  -- 43_base_control.md
  | nop
  | jp (nn : Word)
  | jpCc (cc : Cond) (nn : Word)
  | jr (e : Byte)
  | jrCc (cc : Cond) (e : Byte)
  | djnz (e : Byte)
  | jpHl
  | call (nn : Word)
  | callCc (cc : Cond) (nn : Word)
  | ret
  | retCc (cc : Cond)
  /-- The operand is the target address's low byte, `y * 8` (R310). -/
  | rst (p : Byte)
  | outNA (n : Byte)
  | inAN (n : Byte)
  | halt
  | di
  | ei
  /-- The byte 0xCB alone: the instruction goes on at PC (R317). -/
  | prefixCB
  /-- The byte 0xED alone: the instruction goes on at PC (R318). -/
  | prefixED
  /-- The byte 0xDD or 0xFD alone: the instruction goes on at PC (R319). -/
  | prefixXY (xy : Idx)
  -- 45_bit_ops.md, CB table
  | rlcR (r : Reg8)
  | rlcM
  | rrcR (r : Reg8)
  | rrcM
  | rlR (r : Reg8)
  | rlM
  | rrR (r : Reg8)
  | rrM
  | slaR (r : Reg8)
  | slaM
  | sraR (r : Reg8)
  | sraM
  | sllR (r : Reg8)
  | sllM
  | srlR (r : Reg8)
  | srlM
  | bitR (b : Fin 8) (r : Reg8)
  | bitM (b : Fin 8)
  | resR (b : Fin 8) (r : Reg8)
  | resM (b : Fin 8)
  | setR (b : Fin 8) (r : Reg8)
  | setM (b : Fin 8)
  -- 46_extended.md
  | inRC (r : Reg8)
  | outCR (r : Reg8)
  | sbcHlRp (p : RPair)
  | adcHlRp (p : RPair)
  | ldAbsRp (nn : Word) (p : RPair)
  | ldRpAbs (p : RPair) (nn : Word)
  | neg
  | retn
  | reti
  | im0
  | im1
  | im2
  | ldIA
  | ldRA
  | ldAI
  | ldAR
  | rld
  | rrd
  | ldi
  | ldd
  | ldir
  | lddr
  | cpi
  | cpd
  | cpir
  | cpdr
  | ini
  | ind
  | inir
  | indr
  | outi
  | outd
  | otir
  | otdr
  /-- `ED op` with `op` no known entry of R110 (R466). -/
  | unknownEd (op : Byte)
  -- 44_index.md
  | ldXyImm (xy : Idx) (nn : Word)
  | ldAbsXy (xy : Idx) (nn : Word)
  | ldXyAbs (xy : Idx) (nn : Word)
  | incXy (xy : Idx)
  | decXy (xy : Idx)
  | addXyRp (xy : Idx) (p : XPair)
  | incXyH (xy : Idx)
  | decXyH (xy : Idx)
  | ldXyHN (xy : Idx) (n : Byte)
  | incXyL (xy : Idx)
  | decXyL (xy : Idx)
  | ldXyLN (xy : Idx) (n : Byte)
  | incXyD (xy : Idx) (d : Byte)
  | decXyD (xy : Idx) (d : Byte)
  | ldXyDN (xy : Idx) (d n : Byte)
  | aluXyH (xy : Idx) (op : AluOp)
  | aluXyL (xy : Idx) (op : AluOp)
  | aluXyD (xy : Idx) (op : AluOp) (d : Byte)
  | ldRXyD (xy : Idx) (r : Reg8) (d : Byte)
  | ldXyDR (xy : Idx) (d : Byte) (r : Reg8)
  | ldHalf (xy : Idx) (dst src : XReg)
  | popXy (xy : Idx)
  | pushXy (xy : Idx)
  | exSpXy (xy : Idx)
  | jpXy (xy : Idx)
  | ldSpXy (xy : Idx)
  /-- The bytes DD CB or FD CB alone: the instruction goes on at PC (R378). -/
  | prefixXyCB (xy : Idx)
  /-- An ignored DD or FD before the instruction `i` (R352). -/
  | fallback (xy : Idx) (i : Instr)
  -- 45_bit_ops.md, DD CB / FD CB table; `z` is the ignored z field (R113)
  | rlcXyD (xy : Idx) (d : Byte) (z : Fin 8)
  | rrcXyD (xy : Idx) (d : Byte) (z : Fin 8)
  | rlXyD (xy : Idx) (d : Byte) (z : Fin 8)
  | rrXyD (xy : Idx) (d : Byte) (z : Fin 8)
  | slaXyD (xy : Idx) (d : Byte) (z : Fin 8)
  | sraXyD (xy : Idx) (d : Byte) (z : Fin 8)
  | sllXyD (xy : Idx) (d : Byte) (z : Fin 8)
  | srlXyD (xy : Idx) (d : Byte) (z : Fin 8)
  | bitXyD (xy : Idx) (d : Byte) (b z : Fin 8)
  | resXyD (xy : Idx) (d : Byte) (b z : Fin 8)
  | setXyD (xy : Idx) (d : Byte) (b z : Fin 8)
deriving DecidableEq, Repr

end Sys2Proof
end

