-- ==== Sys2Proof/Decode.lean ====
section
/-! DEFINITION. The decoder and the encoder (30_encoding.md): five tables reached from the first byte (R100), read by the
fields of R101. Decoding is total: no encoding is illegal (R119), and the one thing a list of bytes can lack is more
bytes. What the ED table knows depends on the parameter `ED_IO_C` (R7, D15), the argument `io`. After it, the encoder, written from the same tables, and the host's `decodeTableWord`. -/

namespace Sys2Proof

open Sys2Proof.Machine (mkWord hiByte loByte opX opY opZ opByte)

/-- Why a list of bytes gives no instruction: there is one reason (R119). -/
inductive Reject where
  /-- The list ends inside an instruction: raised by every table when an operand byte, an opcode byte or the byte after an
  index prefix is missing. Safe: nothing is decoded. -/
  | needsMoreBytes
deriving DecidableEq, Repr

/-- An instruction and the bytes after it, or the reason there is none. -/
abbrev Decoded := Except Reject (Instr × List Byte)

/-! ### Operand codes -/

/-- Table r (R102); code 6 is the memory operand. -/
def Reg8.ofCode : Nat → Option Reg8
  | 0 => some .b | 1 => some .c | 2 => some .d | 3 => some .e | 4 => some .h | 5 => some .l | 6 => none | _ => some .a

/-- Table r (R102). -/
def Reg8.code : Reg8 → Nat
  | .b => 0 | .c => 1 | .d => 2 | .e => 3 | .h => 4 | .l => 5 | .a => 7

/-- Table r under an index prefix (R102); code 6 is the memory operand. -/
def XReg.ofCode : Nat → Option XReg
  | 0 => some .b | 1 => some .c | 2 => some .d | 3 => some .e | 4 => some .xyh | 5 => some .xyl | 6 => none | _ => some .a

/-- Table r under an index prefix (R102). -/
def XReg.code : XReg → Nat
  | .b => 0 | .c => 1 | .d => 2 | .e => 3 | .xyh => 4 | .xyl => 5 | .a => 7

/-- Whether the operand is a half of the index register (R372). -/
def XReg.isHalf : XReg → Bool
  | .xyh => true | .xyl => true | _ => false

/-- Table rp (R103). -/
def RPair.ofCode : Nat → RPair
  | 0 => .bc | 1 => .de | 2 => .hl | _ => .sp

/-- Table rp (R103). -/
def RPair.code : RPair → Nat
  | .bc => 0 | .de => 1 | .hl => 2 | .sp => 3

/-- Table rp2 (R104). -/
def RPair2.ofCode : Nat → RPair2
  | 0 => .bc | 1 => .de | 2 => .hl | _ => .af

/-- Table rp2 (R104). -/
def RPair2.code : RPair2 → Nat
  | .bc => 0 | .de => 1 | .hl => 2 | .af => 3

/-- Table rp under an index prefix: code 2 is the index register (R103, R359). -/
def XPair.ofCode : Nat → XPair
  | 0 => .bc | 1 => .de | 2 => .xy | _ => .sp

/-- Table rp under an index prefix (R103, R359). -/
def XPair.code : XPair → Nat
  | .bc => 0 | .de => 1 | .xy => 2 | .sp => 3

/-- Table cc (R105). -/
def Cond.ofCode : Nat → Cond
  | 0 => .nz | 1 => .z | 2 => .nc | 3 => .c | 4 => .po | 5 => .pe | 6 => .p | _ => .m

/-- Table cc (R105). -/
def Cond.code : Cond → Nat
  | .nz => 0 | .z => 1 | .nc => 2 | .c => 3 | .po => 4 | .pe => 5 | .p => 6 | .m => 7

/-- Whether JR has the condition: only codes 0 to 3 (R105, R304). -/
def Cond.isRelative (cc : Cond) : Bool := cc.code < 4

/-- Table alu (R106). -/
def AluOp.ofCode : Nat → AluOp
  | 0 => .add | 1 => .adc | 2 => .sub | 3 => .sbc | 4 => .and | 5 => .xor | 6 => .or | _ => .cp

/-- Table alu (R106). -/
def AluOp.code : AluOp → Nat
  | .add => 0 | .adc => 1 | .sub => 2 | .sbc => 3 | .and => 4 | .xor => 5 | .or => 6 | .cp => 7

/-- Table rot (R107). -/
def Rot.ofCode : Nat → Rot
  | 0 => .rlc | 1 => .rrc | 2 => .rl | 3 => .rr | 4 => .sla | 5 => .sra | 6 => .sll | _ => .srl

/-- Table rot (R107). -/
def Rot.code : Rot → Nat
  | .rlc => 0 | .rrc => 1 | .rl => 2 | .rr => 3 | .sla => 4 | .sra => 5 | .sll => 6 | .srl => 7

/-- The bit number a y field holds (R409). -/
def bitNumber (y : Nat) : Fin 8 := Fin.ofNat 8 y

/-- The index prefix byte: 0xDD for IX, 0xFD for IY (R100). -/
def Idx.prefixByte : Idx → Byte
  | .ix => 0xDD | .iy => 0xFD

/-! ### Operand bytes -/

/-- A form with no operand bytes. -/
def noOperand (i : Instr) (bs : List Byte) : Decoded := .ok (i, bs)

/-- A form with one operand byte: n (R114), e (R116) or d (R117). -/
def oneByte (f : Byte → Instr) : List Byte → Decoded
  | n :: bs => .ok (f n, bs)
  | [] => .error .needsMoreBytes

/-- A form with two operand bytes in fetch order: d then n (R368). -/
def twoBytes (f : Byte → Byte → Instr) : List Byte → Decoded
  | d :: n :: bs => .ok (f d n, bs)
  | _ => .error .needsMoreBytes

/-- A form with nn, low byte first (R115). -/
def immWord (f : Word → Instr) : List Byte → Decoded
  | lo :: hi :: bs => .ok (f (mkWord hi lo), bs)
  | _ => .error .needsMoreBytes

/-! ### The base table (R108) -/

/-- x = 1: HALT when y = z = 6, else LD r[y],r[z]. -/
def ldRow (y z : Nat) : Instr :=
  match Reg8.ofCode y, Reg8.ofCode z with
  | some dst, some src => .ldRR dst src
  | some dst, none => .ldRM dst
  | none, some src => .ldMR src
  | none, none => .halt

/-- x = 2: alu[y] r[z]. -/
def aluRow (y z : Nat) : Instr :=
  match AluOp.ofCode y, Reg8.ofCode z with
  | .add, some r => .addR r
  | .add, none => .addM
  | .adc, some r => .adcR r
  | .adc, none => .adcM
  | .sub, some r => .subR r
  | .sub, none => .subM
  | .sbc, some r => .sbcR r
  | .sbc, none => .sbcM
  | .and, some r => .andR r
  | .and, none => .andM
  | .xor, some r => .xorR r
  | .xor, none => .xorM
  | .or, some r => .orR r
  | .or, none => .orM
  | .cp, some r => .cpR r
  | .cp, none => .cpM

/-- x = 3, z = 6: alu[y] n. -/
def aluImm (y : Nat) (n : Byte) : Instr :=
  match AluOp.ofCode y with
  | .add => .addN n
  | .adc => .adcN n
  | .sub => .subN n
  | .sbc => .sbcN n
  | .and => .andN n
  | .xor => .xorN n
  | .or => .orN n
  | .cp => .cpN n

/-- The register form or the memory form of a row whose operand is r[y] or r[z]. -/
def regOrMem (code : Nat) (reg : Reg8 → Instr) (mem : Instr) : Instr :=
  match Reg8.ofCode code with
  | some r => reg r
  | none => mem

/-- x = 0 of the base table, by z and then y (or p and q). -/
def baseX0 (y z : Nat) : List Byte → Decoded :=
  match z with
  | 0 =>
    match y with
    | 0 => noOperand .nop
    | 1 => noOperand .exAf
    | 2 => oneByte .djnz
    | 3 => oneByte .jr
    | _ => oneByte (.jrCc (Cond.ofCode (y - 4)))
  | 1 => if y % 2 = 0 then immWord (.ldRpImm (RPair.ofCode (y / 2))) else noOperand (.addHlRp (RPair.ofCode (y / 2)))
  | 2 =>
    match y with
    | 0 => noOperand .ldBcA
    | 1 => noOperand .ldABc
    | 2 => noOperand .ldDeA
    | 3 => noOperand .ldADe
    | 4 => immWord .ldAbsHl
    | 5 => immWord .ldHlAbs
    | 6 => immWord .ldAbsA
    | _ => immWord .ldAAbs
  | 3 => noOperand (if y % 2 = 0 then .incRp (RPair.ofCode (y / 2)) else .decRp (RPair.ofCode (y / 2)))
  | 4 => noOperand (regOrMem y .incR .incM)
  | 5 => noOperand (regOrMem y .decR .decM)
  | 6 =>
    match Reg8.ofCode y with
    | some r => oneByte (.ldRN r)
    | none => oneByte .ldMN
  | _ =>
    match y with
    | 0 => noOperand .rlca
    | 1 => noOperand .rrca
    | 2 => noOperand .rla
    | 3 => noOperand .rra
    | 4 => noOperand .daa
    | 5 => noOperand .cpl
    | 6 => noOperand .scf
    | _ => noOperand .ccf

/-- A prefix byte met where a complete entry is wanted: more bytes are needed. -/
def barePrefix (_ : List Byte) : Decoded := .error .needsMoreBytes

/-- x = 3 of the base table, by z and then y (or p and q). -/
def baseX3 (y z : Nat) : List Byte → Decoded :=
  match z with
  | 0 => noOperand (.retCc (Cond.ofCode y))
  | 1 =>
    match y with
    | 1 => noOperand .ret
    | 3 => noOperand .exx
    | 5 => noOperand .jpHl
    | 7 => noOperand .ldSpHl
    | _ => noOperand (.pop (RPair2.ofCode (y / 2)))
  | 2 => immWord (.jpCc (Cond.ofCode y))
  | 3 =>
    match y with
    | 0 => immWord .jp
    | 1 => barePrefix
    | 2 => oneByte .outNA
    | 3 => oneByte .inAN
    | 4 => noOperand .exSpHl
    | 5 => noOperand .exDeHl
    | 6 => noOperand .di
    | _ => noOperand .ei
  | 4 => immWord (.callCc (Cond.ofCode y))
  | 5 =>
    match y with
    | 1 => immWord .call
    | 3 => barePrefix
    | 5 => barePrefix
    | 7 => barePrefix
    | _ => noOperand (.push (RPair2.ofCode (y / 2)))
  | 6 => oneByte (aluImm y)
  | _ => noOperand (.rst (BitVec.ofNat 8 (8 * y)))

/-- The base-table entry of an opcode byte (R108). -/
def baseEntry (op : Byte) : List Byte → Decoded :=
  match opX op with
  | 0 => baseX0 (opY op) (opZ op)
  | 1 => noOperand (ldRow (opY op) (opZ op))
  | 2 => noOperand (aluRow (opY op) (opZ op))
  | _ => baseX3 (opY op) (opZ op)

/-! ### The CB table (R109) -/

/-- x = 0: rot[y] r[z]. -/
def rotRow (y z : Nat) : Instr :=
  match Rot.ofCode y with
  | .rlc => regOrMem z .rlcR .rlcM
  | .rrc => regOrMem z .rrcR .rrcM
  | .rl => regOrMem z .rlR .rlM
  | .rr => regOrMem z .rrR .rrM
  | .sla => regOrMem z .slaR .slaM
  | .sra => regOrMem z .sraR .sraM
  | .sll => regOrMem z .sllR .sllM
  | .srl => regOrMem z .srlR .srlM

/-- The CB-table entry of the byte after 0xCB; all 256 are defined (R109). -/
def cbEntry (op : Byte) : Instr :=
  match opX op with
  | 0 => rotRow (opY op) (opZ op)
  | 1 => regOrMem (opZ op) (.bitR (bitNumber (opY op))) (.bitM (bitNumber (opY op)))
  | 2 => regOrMem (opZ op) (.resR (bitNumber (opY op))) (.resM (bitNumber (opY op)))
  | _ => regOrMem (opZ op) (.setR (bitNumber (opY op))) (.setM (bitNumber (opY op)))

/-! ### The ED table (R110) -/

/-- x = 1 of the ED table; `none` is an unknown entry. -/
def edX1 (io : Bool) (y z : Nat) : Option (List Byte → Decoded) :=
  match z with
  | 0 => if io then (Reg8.ofCode y).map fun r => noOperand (.inRC r) else none
  | 1 => if io then (Reg8.ofCode y).map fun r => noOperand (.outCR r) else none
  | 2 => some (noOperand (if y % 2 = 0 then .sbcHlRp (RPair.ofCode (y / 2)) else .adcHlRp (RPair.ofCode (y / 2))))
  | 3 => some (immWord fun nn => if y % 2 = 0 then .ldAbsRp nn (RPair.ofCode (y / 2)) else .ldRpAbs (RPair.ofCode (y / 2)) nn)
  | 4 => if y = 0 then some (noOperand .neg) else none
  | 5 =>
    match y with
    | 0 => some (noOperand .retn)
    | 1 => some (noOperand .reti)
    | _ => none
  | 6 =>
    match y with
    | 0 => some (noOperand .im0)
    | 2 => some (noOperand .im1)
    | 3 => some (noOperand .im2)
    | _ => none
  | _ =>
    match y with
    | 0 => some (noOperand .ldIA)
    | 1 => some (noOperand .ldRA)
    | 2 => some (noOperand .ldAI)
    | 3 => some (noOperand .ldAR)
    | 4 => some (noOperand .rrd)
    | 5 => some (noOperand .rld)
    | _ => none

/-- x = 2 of the ED table: the block instructions, y = 4..7 and z = 0..3; `none` is an unknown entry. -/
def edX2 (y z : Nat) : Option Instr :=
  match y, z with
  | 4, 0 => some .ldi
  | 4, 1 => some .cpi
  | 4, 2 => some .ini
  | 4, 3 => some .outi
  | 5, 0 => some .ldd
  | 5, 1 => some .cpd
  | 5, 2 => some .ind
  | 5, 3 => some .outd
  | 6, 0 => some .ldir
  | 6, 1 => some .cpir
  | 6, 2 => some .inir
  | 6, 3 => some .otir
  | 7, 0 => some .lddr
  | 7, 1 => some .cpdr
  | 7, 2 => some .indr
  | 7, 3 => some .otdr
  | _, _ => none

/-- The known entry of the byte after 0xED, if it is one of R110's. -/
def edEntry (io : Bool) (op : Byte) : Option (List Byte → Decoded) :=
  match opX op with
  | 1 => edX1 io (opY op) (opZ op)
  | 2 => (edX2 (opY op) (opZ op)).map noOperand
  | _ => none

/-- Whether the byte after 0xED is a known entry (R110, R430). -/
def knownEd (io : Bool) (op : Byte) : Bool := (edEntry io op).isSome

/-! ### The index table (R111) and the displaced-bit table (R113) -/

/-- x = 0 of the index table; `none` is absent. -/
def indexX0 (xy : Idx) (y z : Nat) : Option (List Byte → Decoded) :=
  match y, z with
  | 1, 1 => some (noOperand (.addXyRp xy .bc))
  | 3, 1 => some (noOperand (.addXyRp xy .de))
  | 5, 1 => some (noOperand (.addXyRp xy .xy))
  | 7, 1 => some (noOperand (.addXyRp xy .sp))
  | 4, 1 => some (immWord (.ldXyImm xy))
  | 4, 2 => some (immWord (.ldAbsXy xy))
  | 4, 3 => some (noOperand (.incXy xy))
  | 4, 4 => some (noOperand (.incXyH xy))
  | 4, 5 => some (noOperand (.decXyH xy))
  | 4, 6 => some (oneByte (.ldXyHN xy))
  | 5, 2 => some (immWord (.ldXyAbs xy))
  | 5, 3 => some (noOperand (.decXy xy))
  | 5, 4 => some (noOperand (.incXyL xy))
  | 5, 5 => some (noOperand (.decXyL xy))
  | 5, 6 => some (oneByte (.ldXyLN xy))
  | 6, 4 => some (oneByte (.incXyD xy))
  | 6, 5 => some (oneByte (.decXyD xy))
  | 6, 6 => some (twoBytes (.ldXyDN xy))
  | _, _ => none

/-- x = 1 of the index table: present where y or z is 4, 5 or 6, except HALT (R111, R350). -/
def indexX1 (xy : Idx) (y z : Nat) : Option (List Byte → Decoded) :=
  match XReg.ofCode y, XReg.ofCode z with
  | some dst, some src => if dst.isHalf || src.isHalf then some (noOperand (.ldHalf xy dst src)) else none
  | some _, none => (Reg8.ofCode y).map fun r => oneByte (.ldRXyD xy r)
  | none, some _ => (Reg8.ofCode z).map fun r => oneByte fun d => .ldXyDR xy d r
  | none, none => none

/-- x = 2 of the index table: present where z is 4, 5 or 6 (R111, R369). -/
def indexX2 (xy : Idx) (y z : Nat) : Option (List Byte → Decoded) :=
  match z with
  | 4 => some (noOperand (.aluXyH xy (AluOp.ofCode y)))
  | 5 => some (noOperand (.aluXyL xy (AluOp.ofCode y)))
  | 6 => some (oneByte (.aluXyD xy (AluOp.ofCode y)))
  | _ => none

/-- x = 3 of the index table, but for 0xCB (R111). -/
def indexX3 (xy : Idx) (y z : Nat) : Option (List Byte → Decoded) :=
  match y, z with
  | 4, 1 => some (noOperand (.popXy xy))
  | 4, 3 => some (noOperand (.exSpXy xy))
  | 4, 5 => some (noOperand (.pushXy xy))
  | 5, 1 => some (noOperand (.jpXy xy))
  | 7, 1 => some (noOperand (.ldSpXy xy))
  | _, _ => none

/-- The index-table entry of the byte after the prefix, `none` where it is absent or is 0xCB (R111). -/
def indexEntry (xy : Idx) (op : Byte) : Option (List Byte → Decoded) :=
  match opX op with
  | 0 => indexX0 xy (opY op) (opZ op)
  | 1 => indexX1 xy (opY op) (opZ op)
  | 2 => indexX2 xy (opY op) (opZ op)
  | _ => indexX3 xy (opY op) (opZ op)

/-- The membership test of R112: one of the 86 values of R111, 0xCB among them. -/
def inIndexTable (op : Byte) : Bool := op == 0xCB || (indexEntry .ix op).isSome

/-- The displaced-bit entry of displacement `d` and operation byte `op`; all 256 are defined (R113). -/
def ddcbEntry (xy : Idx) (d op : Byte) : Instr :=
  match opX op with
  | 0 =>
    match Rot.ofCode (opY op) with
    | .rlc => .rlcXyD xy d (bitNumber (opZ op))
    | .rrc => .rrcXyD xy d (bitNumber (opZ op))
    | .rl => .rlXyD xy d (bitNumber (opZ op))
    | .rr => .rrXyD xy d (bitNumber (opZ op))
    | .sla => .slaXyD xy d (bitNumber (opZ op))
    | .sra => .sraXyD xy d (bitNumber (opZ op))
    | .sll => .sllXyD xy d (bitNumber (opZ op))
    | .srl => .srlXyD xy d (bitNumber (opZ op))
  | 1 => .bitXyD xy d (bitNumber (opY op)) (bitNumber (opZ op))
  | 2 => .resXyD xy d (bitNumber (opY op)) (bitNumber (opZ op))
  | _ => .setXyD xy d (bitNumber (opY op)) (bitNumber (opZ op))

/-! ### Dispatch (R100) -/

/-- The index register a byte selects as a prefix (R100). -/
def Idx.ofByte (b : Byte) : Option Idx :=
  if b = 0xDD then some .ix else if b = 0xFD then some .iy else none

/-- After 0xED: a known entry, else the no-op of R466 (R430). -/
def decodeEd (io : Bool) : List Byte → Decoded
  | [] => .error .needsMoreBytes
  | op :: bs =>
    match edEntry io op with
    | some entry => entry bs
    | none => .ok (.unknownEd op, bs)

/-- An ignored index prefix before the decoding of what follows it (R352 (c)). -/
def asFallback (xy : Idx) : Decoded → Decoded
  | .ok (i, bs) => .ok (.fallback xy i, bs)
  | .error r => .error r

/-- After an index prefix: the displaced-bit table, the index table, or the fallback, whose decoding of the same bytes as
a base instruction is given as `base` (R352). -/
def decodeIndexed (xy : Idx) (bs : List Byte) (base : Decoded) : Decoded :=
  match bs with
  | [] => .error .needsMoreBytes
  | b1 :: rest =>
    if b1 = 0xCB then twoBytes (ddcbEntry xy) rest
    else
      match indexEntry xy b1 with
      | some entry => entry rest
      | none => asFallback xy base

/-- The decoder: the instruction at the head of a list of bytes and the bytes after it (R100). -/
def decode (io : Bool) : List Byte → Decoded
  | [] => .error .needsMoreBytes
  | b0 :: bs =>
    if b0 = 0xCB then oneByte cbEntry bs
    else if b0 = 0xED then decodeEd io bs
    else
      match Idx.ofByte b0 with
      | some xy => decodeIndexed xy bs (decode io bs)
      | none => baseEntry b0 bs

/-! ### The encoder -/

/-- The bytes of nn, low byte first (R115). -/
def wordBytes (nn : Word) : List Byte := [loByte nn, hiByte nn]

/-- A CB-table instruction's bytes (R109). -/
def cbBytes (x y z : Nat) : List Byte := [0xCB, opByte x y z]

/-- An ED-table instruction's prefix and opcode (R110). -/
def edBytes (x y z : Nat) : List Byte := [0xED, opByte x y z]

/-- An index-table instruction's prefix and opcode (R111). -/
def xyBytes (xy : Idx) (x y z : Nat) : List Byte := [xy.prefixByte, opByte x y z]

/-- A displaced-bit instruction's bytes: prefix, CB, displacement, operation (R113). -/
def ddcbBytes (xy : Idx) (d : Byte) (x y z : Nat) : List Byte := [xy.prefixByte, 0xCB, d, opByte x y z]

/-- The bytes of a well-formed instruction in fetch order, by the tables R108 to R113. -/
def encode : Instr → List Byte
  | .ldRR dst src => [opByte 1 dst.code src.code]
  | .ldRN r n => [opByte 0 r.code 6, n]
  | .ldRM r => [opByte 1 r.code 6]
  | .ldMR r => [opByte 1 6 r.code]
  | .ldMN n => [0x36, n]
  | .ldABc => [0x0A]
  | .ldADe => [0x1A]
  | .ldBcA => [0x02]
  | .ldDeA => [0x12]
  | .ldAAbs nn => 0x3A :: wordBytes nn
  | .ldAbsA nn => 0x32 :: wordBytes nn
  | .ldRpImm p nn => opByte 0 (2 * p.code) 1 :: wordBytes nn
  | .ldHlAbs nn => 0x2A :: wordBytes nn
  | .ldAbsHl nn => 0x22 :: wordBytes nn
  | .ldSpHl => [0xF9]
  | .push p => [opByte 3 (2 * p.code) 5]
  | .pop p => [opByte 3 (2 * p.code) 1]
  | .exDeHl => [0xEB]
  | .exAf => [0x08]
  | .exx => [0xD9]
  | .exSpHl => [0xE3]
  | .addR r => [opByte 2 0 r.code]
  | .addM => [0x86]
  | .addN n => [0xC6, n]
  | .adcR r => [opByte 2 1 r.code]
  | .adcM => [0x8E]
  | .adcN n => [0xCE, n]
  | .subR r => [opByte 2 2 r.code]
  | .subM => [0x96]
  | .subN n => [0xD6, n]
  | .sbcR r => [opByte 2 3 r.code]
  | .sbcM => [0x9E]
  | .sbcN n => [0xDE, n]
  | .andR r => [opByte 2 4 r.code]
  | .andM => [0xA6]
  | .andN n => [0xE6, n]
  | .xorR r => [opByte 2 5 r.code]
  | .xorM => [0xAE]
  | .xorN n => [0xEE, n]
  | .orR r => [opByte 2 6 r.code]
  | .orM => [0xB6]
  | .orN n => [0xF6, n]
  | .cpR r => [opByte 2 7 r.code]
  | .cpM => [0xBE]
  | .cpN n => [0xFE, n]
  | .incR r => [opByte 0 r.code 4]
  | .incM => [0x34]
  | .decR r => [opByte 0 r.code 5]
  | .decM => [0x35]
  | .incRp p => [opByte 0 (2 * p.code) 3]
  | .decRp p => [opByte 0 (2 * p.code + 1) 3]
  | .addHlRp p => [opByte 0 (2 * p.code + 1) 1]
  | .daa => [0x27]
  | .cpl => [0x2F]
  | .scf => [0x37]
  | .ccf => [0x3F]
  | .rlca => [0x07]
  | .rrca => [0x0F]
  | .rla => [0x17]
  | .rra => [0x1F]
  | .nop => [0x00]
  | .jp nn => 0xC3 :: wordBytes nn
  | .jpCc cc nn => opByte 3 cc.code 2 :: wordBytes nn
  | .jr e => [0x18, e]
  | .jrCc cc e => [opByte 0 (4 + cc.code) 0, e]
  | .djnz e => [0x10, e]
  | .jpHl => [0xE9]
  | .call nn => 0xCD :: wordBytes nn
  | .callCc cc nn => opByte 3 cc.code 4 :: wordBytes nn
  | .ret => [0xC9]
  | .retCc cc => [opByte 3 cc.code 0]
  | .rst p => [opByte 3 (p.toNat / 8) 7]
  | .outNA n => [0xD3, n]
  | .inAN n => [0xDB, n]
  | .halt => [0x76]
  | .di => [0xF3]
  | .ei => [0xFB]
  | .prefixCB => [0xCB]
  | .prefixED => [0xED]
  | .prefixXY xy => [xy.prefixByte]
  | .rlcR r => cbBytes 0 0 r.code
  | .rlcM => cbBytes 0 0 6
  | .rrcR r => cbBytes 0 1 r.code
  | .rrcM => cbBytes 0 1 6
  | .rlR r => cbBytes 0 2 r.code
  | .rlM => cbBytes 0 2 6
  | .rrR r => cbBytes 0 3 r.code
  | .rrM => cbBytes 0 3 6
  | .slaR r => cbBytes 0 4 r.code
  | .slaM => cbBytes 0 4 6
  | .sraR r => cbBytes 0 5 r.code
  | .sraM => cbBytes 0 5 6
  | .sllR r => cbBytes 0 6 r.code
  | .sllM => cbBytes 0 6 6
  | .srlR r => cbBytes 0 7 r.code
  | .srlM => cbBytes 0 7 6
  | .bitR b r => cbBytes 1 b r.code
  | .bitM b => cbBytes 1 b 6
  | .resR b r => cbBytes 2 b r.code
  | .resM b => cbBytes 2 b 6
  | .setR b r => cbBytes 3 b r.code
  | .setM b => cbBytes 3 b 6
  | .inRC r => edBytes 1 r.code 0
  | .outCR r => edBytes 1 r.code 1
  | .sbcHlRp p => edBytes 1 (2 * p.code) 2
  | .adcHlRp p => edBytes 1 (2 * p.code + 1) 2
  | .ldAbsRp nn p => edBytes 1 (2 * p.code) 3 ++ wordBytes nn
  | .ldRpAbs p nn => edBytes 1 (2 * p.code + 1) 3 ++ wordBytes nn
  | .neg => [0xED, 0x44]
  | .retn => [0xED, 0x45]
  | .reti => [0xED, 0x4D]
  | .im0 => [0xED, 0x46]
  | .im1 => [0xED, 0x56]
  | .im2 => [0xED, 0x5E]
  | .ldIA => [0xED, 0x47]
  | .ldRA => [0xED, 0x4F]
  | .ldAI => [0xED, 0x57]
  | .ldAR => [0xED, 0x5F]
  | .rld => [0xED, 0x6F]
  | .rrd => [0xED, 0x67]
  | .ldi => [0xED, 0xA0]
  | .ldd => [0xED, 0xA8]
  | .ldir => [0xED, 0xB0]
  | .lddr => [0xED, 0xB8]
  | .cpi => [0xED, 0xA1]
  | .cpd => [0xED, 0xA9]
  | .cpir => [0xED, 0xB1]
  | .cpdr => [0xED, 0xB9]
  | .ini => [0xED, 0xA2]
  | .ind => [0xED, 0xAA]
  | .inir => [0xED, 0xB2]
  | .indr => [0xED, 0xBA]
  | .outi => [0xED, 0xA3]
  | .outd => [0xED, 0xAB]
  | .otir => [0xED, 0xB3]
  | .otdr => [0xED, 0xBB]
  | .unknownEd op => [0xED, op]
  | .ldXyImm xy nn => xyBytes xy 0 4 1 ++ wordBytes nn
  | .ldAbsXy xy nn => xyBytes xy 0 4 2 ++ wordBytes nn
  | .ldXyAbs xy nn => xyBytes xy 0 5 2 ++ wordBytes nn
  | .incXy xy => xyBytes xy 0 4 3
  | .decXy xy => xyBytes xy 0 5 3
  | .addXyRp xy p => xyBytes xy 0 (2 * p.code + 1) 1
  | .incXyH xy => xyBytes xy 0 4 4
  | .decXyH xy => xyBytes xy 0 4 5
  | .ldXyHN xy n => xyBytes xy 0 4 6 ++ [n]
  | .incXyL xy => xyBytes xy 0 5 4
  | .decXyL xy => xyBytes xy 0 5 5
  | .ldXyLN xy n => xyBytes xy 0 5 6 ++ [n]
  | .incXyD xy d => xyBytes xy 0 6 4 ++ [d]
  | .decXyD xy d => xyBytes xy 0 6 5 ++ [d]
  | .ldXyDN xy d n => xyBytes xy 0 6 6 ++ [d, n]
  | .aluXyH xy op => xyBytes xy 2 op.code 4
  | .aluXyL xy op => xyBytes xy 2 op.code 5
  | .aluXyD xy op d => xyBytes xy 2 op.code 6 ++ [d]
  | .ldRXyD xy r d => xyBytes xy 1 r.code 6 ++ [d]
  | .ldXyDR xy d r => xyBytes xy 1 6 r.code ++ [d]
  | .ldHalf xy dst src => xyBytes xy 1 dst.code src.code
  | .popXy xy => xyBytes xy 3 4 1
  | .pushXy xy => xyBytes xy 3 4 5
  | .exSpXy xy => xyBytes xy 3 4 3
  | .jpXy xy => xyBytes xy 3 5 1
  | .ldSpXy xy => xyBytes xy 3 7 1
  | .prefixXyCB xy => [xy.prefixByte, 0xCB]
  | .fallback xy i => xy.prefixByte :: encode i
  | .rlcXyD xy d z => ddcbBytes xy d 0 0 z
  | .rrcXyD xy d z => ddcbBytes xy d 0 1 z
  | .rlXyD xy d z => ddcbBytes xy d 0 2 z
  | .rrXyD xy d z => ddcbBytes xy d 0 3 z
  | .slaXyD xy d z => ddcbBytes xy d 0 4 z
  | .sraXyD xy d z => ddcbBytes xy d 0 5 z
  | .sllXyD xy d z => ddcbBytes xy d 0 6 z
  | .srlXyD xy d z => ddcbBytes xy d 0 7 z
  | .bitXyD xy d b z => ddcbBytes xy d 1 b z
  | .resXyD xy d b z => ddcbBytes xy d 2 b z
  | .setXyD xy d b z => ddcbBytes xy d 3 b z

/-- How many bytes an instruction has (R118). -/
def Instr.size (i : Instr) : Nat := (encode i).length

/-! ### The opcode table's own words -/

/-- Whether a byte is one of the four prefixes (R100). -/
def isPrefixByte (b : Byte) : Bool := b == 0xCB || b == 0xED || b == 0xDD || b == 0xFD

/-- The bytes of an opcode-table word in fetch order. The table's `match` is its fixed bytes "concatenated in fetch order"
(R123), so a word whose top byte is a prefix is read from its top byte down, and any other from bit 0 up; the table leaves
the displacement of a `DD CB d op` row out of its three bytes, and it is put back as 0 (log 11). -/
def tableBytes (nbits w : Nat) : List Byte :=
  let up := (List.range ((nbits + 7) / 8)).map fun k => BitVec.ofNat 8 (w / 256 ^ k)
  let bs := if isPrefixByte (up.getLastD 0) then up.reverse else up
  match bs with
  | [p, cb, op] => if (Idx.ofByte p).isSome && cb == 0xCB then [p, cb, 0, op] else [p, cb, op]
  | bs => bs

/-- The rows that are a prefix alone (R317, R318, R319, R378): what a list of bytes is when it is exactly a prefix. -/
def prefixRow : List Byte → Option Instr
  | [p] =>
    if p = 0xCB then some .prefixCB
    else if p = 0xED then some .prefixED
    else (Idx.ofByte p).map .prefixXY
  | [p, op] => if op = 0xCB then (Idx.ofByte p).map .prefixXyCB else none
  | _ => none

/-- The instruction an opcode-table word stands for: a prefix row where the word is a prefix alone, else what the decoder
reads with zero bytes after the word, under this spec's value of `ED_IO_C`. -/
def decodeTableWord (nbits w : Nat) : Option Instr :=
  match prefixRow (tableBytes nbits w) with
  | some i => some i
  | none =>
    match decode Machine.specParams.edIoC (tableBytes nbits w ++ List.replicate 8 0) with
    | .ok (i, _) => some i
    | .error _ => none

end Sys2Proof
end

