-- ==== Sys2Proof/Machine/Cycles.lean ====
section
/-! DEFINITION. What an instruction costs before its surcharges: its entry of the parameter `CYCLES` (00_scope.md R7;
70_reset_and_hazards.md R610 to R615). The surcharges of R616 are added by the meanings that take them. -/

namespace Sys2Proof.Machine

/-- The entry of an opcode byte in one of the five tables. -/
def costAt (rows : List (List Nat)) (op : Byte) : Nat := (rows.getD (op.toNat / 16) []).getD (op.toNat % 16) 0

/-- The entry for the bytes of an instruction, by the table they are reached in (R100); a prefix alone has none. -/
def CycleTable.ofBytes (c : CycleTable) : List Byte → Nat
  | [op] => if isPrefixByte op then 0 else costAt c.base op
  | p :: op :: rest =>
    if p = 0xCB then costAt c.bits op
    else if p = 0xED then costAt c.extended op
    else
      match Idx.ofByte p, rest with
      | none, _ => costAt c.base p
      | some _, [_, b] => if op = 0xCB then costAt c.displacedBits b else costAt c.index op
      | some _, _ => if op = 0xCB then 0 else costAt c.index op
  | [] => 0

/-- The base cost of an instruction (R611 to R615). An unknown ED opcode has one cost, whatever its byte (R613); a fallback
costs the ignored prefix and the instruction after it (R614). A prefix row has no cost of its own: its meaning adds the cost
of the instruction it goes on with (log 10). -/
def baseCost (c : CycleTable) : Instr → Nat
  | .unknownEd _ => c.unknownExtended
  | .fallback _ i => c.ignoredPrefix + baseCost c i
  | i => c.ofBytes (encode i)

/-- What a halted step costs, the source's own number (R618). -/
def haltedCost : Nat := 4

end Sys2Proof.Machine
end

