-- ==== Sys2Proof/Machine/Fetch.lean ====
section
/-! DEFINITION. Reading an instruction at an address: the bytes a decoding may need, and the instruction they give
(20_memory.md R65, R73; 30_encoding.md R100; 44_index.md R353). -/

namespace Sys2Proof.Machine

/-- The number of addresses: a run of index prefixes of this length, all held by memory, goes round the whole address space and
never ends (R353). -/
def addressCount : Nat := 65536

/-- How many of the next bytes, at most `fuel`, are index prefixes before the first that is none (R352, D18). -/
def State.prefixRun (s : State) : Nat → Word → Nat
  | 0, _ => 0
  | fuel + 1, addr => if (Idx.ofByte (s.peek addr)).isSome then (s.sawRead addr).prefixRun fuel (addr + 1) + 1 else 0

/-- How many reads settle whether a run of index prefixes ends: the host's ready answers, then once round the memory. -/
def State.prefixBound (s : State) : Nat := s.answers.length + addressCount

/-- The bytes a decoding at an address can ask for: a run of index prefixes and the four bytes after it (R118). -/
def State.window (s : State) (addr : Word) : List Byte := s.bytesAt (s.prefixRun s.prefixBound addr + 4) addr

/-- The instruction the bytes at PC give; `none` where the prefixes never end (R100, R353). -/
def State.instrAt (s : State) : Option Instr :=
  match decode s.params.edIoC (s.window s.pc) with
  | .ok (i, _) => some i
  | .error _ => none

end Sys2Proof.Machine
end

