-- ==== Sys2Proof/Machine/Tables.lean ====
section
/-! DEFINITION. The five tables as one function: what a complete instruction does. The prefix rows and the fallback, which
go on with an instruction of these tables (30_encoding.md R100; 44_index.md R352), call it; `exec` calls the same meanings,
one by one. -/

namespace Sys2Proof.Machine

/-- The effect of a complete instruction. A fallback has the effect of the instruction after the ignored prefix (R352); a
prefix alone is no complete instruction (log 10). -/
def runComplete : Instr → State → Host.Outcome State Fault Refusal
  | .ldRR dst src, s => execLdRR dst src s
  | .ldRN r n, s => execLdRN r n s
  | .ldRM r, s => execLdRM r s
  | .ldMR r, s => execLdMR r s
  | .ldMN n, s => execLdMN n s
  | .ldABc, s => execLdABc s
  | .ldADe, s => execLdADe s
  | .ldBcA, s => execLdBcA s
  | .ldDeA, s => execLdDeA s
  | .ldAAbs nn, s => execLdAAbs nn s
  | .ldAbsA nn, s => execLdAbsA nn s
  | .ldRpImm p nn, s => execLdRpImm p nn s
  | .ldHlAbs nn, s => execLdHlAbs nn s
  | .ldAbsHl nn, s => execLdAbsHl nn s
  | .ldSpHl, s => execLdSpHl s
  | .push p, s => execPush p s
  | .pop p, s => execPop p s
  | .exDeHl, s => execExDeHl s
  | .exAf, s => execExAf s
  | .exx, s => execExx s
  | .exSpHl, s => execExSpHl s
  | .addR r, s => execAddR r s
  | .addM, s => execAddM s
  | .addN n, s => execAddN n s
  | .adcR r, s => execAdcR r s
  | .adcM, s => execAdcM s
  | .adcN n, s => execAdcN n s
  | .subR r, s => execSubR r s
  | .subM, s => execSubM s
  | .subN n, s => execSubN n s
  | .sbcR r, s => execSbcR r s
  | .sbcM, s => execSbcM s
  | .sbcN n, s => execSbcN n s
  | .andR r, s => execAndR r s
  | .andM, s => execAndM s
  | .andN n, s => execAndN n s
  | .xorR r, s => execXorR r s
  | .xorM, s => execXorM s
  | .xorN n, s => execXorN n s
  | .orR r, s => execOrR r s
  | .orM, s => execOrM s
  | .orN n, s => execOrN n s
  | .cpR r, s => execCpR r s
  | .cpM, s => execCpM s
  | .cpN n, s => execCpN n s
  | .incR r, s => execIncR r s
  | .incM, s => execIncM s
  | .decR r, s => execDecR r s
  | .decM, s => execDecM s
  | .incRp p, s => execIncRp p s
  | .decRp p, s => execDecRp p s
  | .addHlRp p, s => execAddHlRp p s
  | .daa, s => execDaa s
  | .cpl, s => execCpl s
  | .scf, s => execScf s
  | .ccf, s => execCcf s
  | .rlca, s => execRlca s
  | .rrca, s => execRrca s
  | .rla, s => execRla s
  | .rra, s => execRra s
  | .nop, s => execNop s
  | .jp nn, s => execJp nn s
  | .jpCc cc nn, s => execJpCc cc nn s
  | .jr e, s => execJr e s
  | .jrCc cc e, s => execJrCc cc e s
  | .djnz e, s => execDjnz e s
  | .jpHl, s => execJpHl s
  | .call nn, s => execCall nn s
  | .callCc cc nn, s => execCallCc cc nn s
  | .ret, s => execRet s
  | .retCc cc, s => execRetCc cc s
  | .rst p, s => execRst p s
  | .outNA n, s => execOutNA n s
  | .inAN n, s => execInAN n s
  | .halt, s => execHalt s
  | .di, s => execDi s
  | .ei, s => execEi s
  | .prefixCB, _ => .refused .illFormed
  | .prefixED, _ => .refused .illFormed
  | .prefixXY _, _ => .refused .illFormed
  | .rlcR r, s => execRlcR r s
  | .rlcM, s => execRlcM s
  | .rrcR r, s => execRrcR r s
  | .rrcM, s => execRrcM s
  | .rlR r, s => execRlR r s
  | .rlM, s => execRlM s
  | .rrR r, s => execRrR r s
  | .rrM, s => execRrM s
  | .slaR r, s => execSlaR r s
  | .slaM, s => execSlaM s
  | .sraR r, s => execSraR r s
  | .sraM, s => execSraM s
  | .sllR r, s => execSllR r s
  | .sllM, s => execSllM s
  | .srlR r, s => execSrlR r s
  | .srlM, s => execSrlM s
  | .bitR b r, s => execBitR b r s
  | .bitM b, s => execBitM b s
  | .resR b r, s => execResR b r s
  | .resM b, s => execResM b s
  | .setR b r, s => execSetR b r s
  | .setM b, s => execSetM b s
  | .inRC r, s => execInRC r s
  | .outCR r, s => execOutCR r s
  | .sbcHlRp p, s => execSbcHlRp p s
  | .adcHlRp p, s => execAdcHlRp p s
  | .ldAbsRp nn p, s => execLdAbsRp nn p s
  | .ldRpAbs p nn, s => execLdRpAbs p nn s
  | .neg, s => execNeg s
  | .retn, s => execRetn s
  | .reti, s => execReti s
  | .im0, s => execIm0 s
  | .im1, s => execIm1 s
  | .im2, s => execIm2 s
  | .ldIA, s => execLdIA s
  | .ldRA, s => execLdRA s
  | .ldAI, s => execLdAI s
  | .ldAR, s => execLdAR s
  | .rld, s => execRld s
  | .rrd, s => execRrd s
  | .ldi, s => execLdi s
  | .ldd, s => execLdd s
  | .ldir, s => execLdir s
  | .lddr, s => execLddr s
  | .cpi, s => execCpi s
  | .cpd, s => execCpd s
  | .cpir, s => execCpir s
  | .cpdr, s => execCpdr s
  | .ini, s => execIni s
  | .ind, s => execInd s
  | .inir, s => execInir s
  | .indr, s => execIndr s
  | .outi, s => execOuti s
  | .outd, s => execOutd s
  | .otir, s => execOtir s
  | .otdr, s => execOtdr s
  | .unknownEd op, s => execUnknownEd op s
  | .ldXyImm xy nn, s => execLdXyImm xy nn s
  | .ldAbsXy xy nn, s => execLdAbsXy xy nn s
  | .ldXyAbs xy nn, s => execLdXyAbs xy nn s
  | .incXy xy, s => execIncXy xy s
  | .decXy xy, s => execDecXy xy s
  | .addXyRp xy p, s => execAddXyRp xy p s
  | .incXyH xy, s => execIncXyH xy s
  | .decXyH xy, s => execDecXyH xy s
  | .ldXyHN xy n, s => execLdXyHN xy n s
  | .incXyL xy, s => execIncXyL xy s
  | .decXyL xy, s => execDecXyL xy s
  | .ldXyLN xy n, s => execLdXyLN xy n s
  | .incXyD xy d, s => execIncXyD xy d s
  | .decXyD xy d, s => execDecXyD xy d s
  | .ldXyDN xy d n, s => execLdXyDN xy d n s
  | .aluXyH xy op, s => execAluXyH xy op s
  | .aluXyL xy op, s => execAluXyL xy op s
  | .aluXyD xy op d, s => execAluXyD xy op d s
  | .ldRXyD xy r d, s => execLdRXyD xy r d s
  | .ldXyDR xy d r, s => execLdXyDR xy d r s
  | .ldHalf xy dst src, s => execLdHalf xy dst src s
  | .popXy xy, s => execPopXy xy s
  | .pushXy xy, s => execPushXy xy s
  | .exSpXy xy, s => execExSpXy xy s
  | .jpXy xy, s => execJpXy xy s
  | .ldSpXy xy, s => execLdSpXy xy s
  | .prefixXyCB _, _ => .refused .illFormed
  | .fallback _ i, s => runComplete i s
  | .rlcXyD xy d z, s => execRlcXyD xy d z s
  | .rrcXyD xy d z, s => execRrcXyD xy d z s
  | .rlXyD xy d z, s => execRlXyD xy d z s
  | .rrXyD xy d z, s => execRrXyD xy d z s
  | .slaXyD xy d z, s => execSlaXyD xy d z s
  | .sraXyD xy d z, s => execSraXyD xy d z s
  | .sllXyD xy d z, s => execSllXyD xy d z s
  | .srlXyD xy d z, s => execSrlXyD xy d z s
  | .bitXyD xy d b z, s => execBitXyD xy d b z s
  | .resXyD xy d b z, s => execResXyD xy d b z s
  | .setXyD xy d b z, s => execSetXyD xy d b z s

end Sys2Proof.Machine
end

