-- ==== Sys2Proof/Machine/Prefix.lean ====
section
/-! DEFINITION. Meanings of the prefix rows (43_base_control.md R317 to R319; 44_index.md R378) and of the fallback (R352). A
prefix row stands for its bytes alone, already fetched: its meaning goes on with the bytes at PC, in the same step (log 10). -/

namespace Sys2Proof.Machine

/-- Going on after the prefix bytes `pre`: the rest of the instruction is fetched, and the instruction has its effect and
its whole base cost (R317, R318, R319, R378); where the prefixes never end, the fetch goes on for ever (R353). -/
def resume (pre : List Byte) (s : State) : Host.Outcome State Fault Refusal :=
  match decode s.params.edIoC (pre ++ s.window s.pc) with
  | .ok (i, _) =>
    andThen (runComplete i (s.fetch (i.size - pre.length))) fun t => .next (t.tick (baseCost s.params.cycleTable i))
  | .error _ => .next s.hangOn

/-- The prefix CB (R317). -/
def execPrefixCB (s : State) : Host.Outcome State Fault Refusal :=
  resume [0xCB] s

/-- The prefix ED (R318). -/
def execPrefixED (s : State) : Host.Outcome State Fault Refusal :=
  resume [0xED] s

/-- The prefix DD or FD (R319, R352). -/
def execPrefixXY (xy : Idx) (s : State) : Host.Outcome State Fault Refusal :=
  resume [xy.prefixByte] s

/-- The prefix DD CB or FD CB (R378). -/
def execPrefixXyCB (xy : Idx) (s : State) : Host.Outcome State Fault Refusal :=
  resume [xy.prefixByte, 0xCB] s

/-- An ignored DD or FD: the instruction after it, with HL, H, L and (HL) the real ones (R352 (c)). -/
def execFallback (_xy : Idx) (i : Instr) (s : State) : Host.Outcome State Fault Refusal :=
  runComplete i s

end Sys2Proof.Machine
end

