-- ==== Sys2Proof/Machine/Dispatch.lean ====
section
/-! DEFINITION. One arm per row of spec/opcode_table.json, in the table's order. -/

namespace Sys2Proof.Machine

/-- The effect of an instruction once its bytes are fetched: PC is past them (10_state.md R29), R has been incremented
(60_exceptions.md R504), and the base cost is added by the driver (70_reset_and_hazards.md R610). -/
def exec (i : Instr) (s : State) : Host.Outcome State Fault Refusal :=
  match i with
  | .ldRR dst src => Sys2Proof.Machine.execLdRR dst src s
  | .ldRN r n => Sys2Proof.Machine.execLdRN r n s
  | .ldRM r => Sys2Proof.Machine.execLdRM r s
  | .ldMR r => Sys2Proof.Machine.execLdMR r s
  | .ldMN n => Sys2Proof.Machine.execLdMN n s
  | .ldABc => Sys2Proof.Machine.execLdABc s
  | .ldADe => Sys2Proof.Machine.execLdADe s
  | .ldBcA => Sys2Proof.Machine.execLdBcA s
  | .ldDeA => Sys2Proof.Machine.execLdDeA s
  | .ldAAbs nn => Sys2Proof.Machine.execLdAAbs nn s
  | .ldAbsA nn => Sys2Proof.Machine.execLdAbsA nn s
  | .ldRpImm p nn => Sys2Proof.Machine.execLdRpImm p nn s
  | .ldHlAbs nn => Sys2Proof.Machine.execLdHlAbs nn s
  | .ldAbsHl nn => Sys2Proof.Machine.execLdAbsHl nn s
  | .ldSpHl => Sys2Proof.Machine.execLdSpHl s
  | .push p => Sys2Proof.Machine.execPush p s
  | .pop p => Sys2Proof.Machine.execPop p s
  | .exDeHl => Sys2Proof.Machine.execExDeHl s
  | .exAf => Sys2Proof.Machine.execExAf s
  | .exx => Sys2Proof.Machine.execExx s
  | .exSpHl => Sys2Proof.Machine.execExSpHl s
  | .addR r => Sys2Proof.Machine.execAddR r s
  | .addM => Sys2Proof.Machine.execAddM s
  | .addN n => Sys2Proof.Machine.execAddN n s
  | .adcR r => Sys2Proof.Machine.execAdcR r s
  | .adcM => Sys2Proof.Machine.execAdcM s
  | .adcN n => Sys2Proof.Machine.execAdcN n s
  | .subR r => Sys2Proof.Machine.execSubR r s
  | .subM => Sys2Proof.Machine.execSubM s
  | .subN n => Sys2Proof.Machine.execSubN n s
  | .sbcR r => Sys2Proof.Machine.execSbcR r s
  | .sbcM => Sys2Proof.Machine.execSbcM s
  | .sbcN n => Sys2Proof.Machine.execSbcN n s
  | .andR r => Sys2Proof.Machine.execAndR r s
  | .andM => Sys2Proof.Machine.execAndM s
  | .andN n => Sys2Proof.Machine.execAndN n s
  | .xorR r => Sys2Proof.Machine.execXorR r s
  | .xorM => Sys2Proof.Machine.execXorM s
  | .xorN n => Sys2Proof.Machine.execXorN n s
  | .orR r => Sys2Proof.Machine.execOrR r s
  | .orM => Sys2Proof.Machine.execOrM s
  | .orN n => Sys2Proof.Machine.execOrN n s
  | .cpR r => Sys2Proof.Machine.execCpR r s
  | .cpM => Sys2Proof.Machine.execCpM s
  | .cpN n => Sys2Proof.Machine.execCpN n s
  | .incR r => Sys2Proof.Machine.execIncR r s
  | .incM => Sys2Proof.Machine.execIncM s
  | .decR r => Sys2Proof.Machine.execDecR r s
  | .decM => Sys2Proof.Machine.execDecM s
  | .incRp p => Sys2Proof.Machine.execIncRp p s
  | .decRp p => Sys2Proof.Machine.execDecRp p s
  | .addHlRp p => Sys2Proof.Machine.execAddHlRp p s
  | .daa => Sys2Proof.Machine.execDaa s
  | .cpl => Sys2Proof.Machine.execCpl s
  | .scf => Sys2Proof.Machine.execScf s
  | .ccf => Sys2Proof.Machine.execCcf s
  | .rlca => Sys2Proof.Machine.execRlca s
  | .rrca => Sys2Proof.Machine.execRrca s
  | .rla => Sys2Proof.Machine.execRla s
  | .rra => Sys2Proof.Machine.execRra s
  | .nop => Sys2Proof.Machine.execNop s
  | .jp nn => Sys2Proof.Machine.execJp nn s
  | .jpCc cc nn => Sys2Proof.Machine.execJpCc cc nn s
  | .jr e => Sys2Proof.Machine.execJr e s
  | .jrCc cc e => Sys2Proof.Machine.execJrCc cc e s
  | .djnz e => Sys2Proof.Machine.execDjnz e s
  | .jpHl => Sys2Proof.Machine.execJpHl s
  | .call nn => Sys2Proof.Machine.execCall nn s
  | .callCc cc nn => Sys2Proof.Machine.execCallCc cc nn s
  | .ret => Sys2Proof.Machine.execRet s
  | .retCc cc => Sys2Proof.Machine.execRetCc cc s
  | .rst p => Sys2Proof.Machine.execRst p s
  | .outNA n => Sys2Proof.Machine.execOutNA n s
  | .inAN n => Sys2Proof.Machine.execInAN n s
  | .halt => Sys2Proof.Machine.execHalt s
  | .di => Sys2Proof.Machine.execDi s
  | .ei => Sys2Proof.Machine.execEi s
  | .prefixCB => Sys2Proof.Machine.execPrefixCB s
  | .prefixED => Sys2Proof.Machine.execPrefixED s
  | .prefixXY xy => Sys2Proof.Machine.execPrefixXY xy s
  | .rlcR r => Sys2Proof.Machine.execRlcR r s
  | .rlcM => Sys2Proof.Machine.execRlcM s
  | .rrcR r => Sys2Proof.Machine.execRrcR r s
  | .rrcM => Sys2Proof.Machine.execRrcM s
  | .rlR r => Sys2Proof.Machine.execRlR r s
  | .rlM => Sys2Proof.Machine.execRlM s
  | .rrR r => Sys2Proof.Machine.execRrR r s
  | .rrM => Sys2Proof.Machine.execRrM s
  | .slaR r => Sys2Proof.Machine.execSlaR r s
  | .slaM => Sys2Proof.Machine.execSlaM s
  | .sraR r => Sys2Proof.Machine.execSraR r s
  | .sraM => Sys2Proof.Machine.execSraM s
  | .sllR r => Sys2Proof.Machine.execSllR r s
  | .sllM => Sys2Proof.Machine.execSllM s
  | .srlR r => Sys2Proof.Machine.execSrlR r s
  | .srlM => Sys2Proof.Machine.execSrlM s
  | .bitR b r => Sys2Proof.Machine.execBitR b r s
  | .bitM b => Sys2Proof.Machine.execBitM b s
  | .resR b r => Sys2Proof.Machine.execResR b r s
  | .resM b => Sys2Proof.Machine.execResM b s
  | .setR b r => Sys2Proof.Machine.execSetR b r s
  | .setM b => Sys2Proof.Machine.execSetM b s
  | .inRC r => Sys2Proof.Machine.execInRC r s
  | .outCR r => Sys2Proof.Machine.execOutCR r s
  | .sbcHlRp p => Sys2Proof.Machine.execSbcHlRp p s
  | .adcHlRp p => Sys2Proof.Machine.execAdcHlRp p s
  | .ldAbsRp nn p => Sys2Proof.Machine.execLdAbsRp nn p s
  | .ldRpAbs p nn => Sys2Proof.Machine.execLdRpAbs p nn s
  | .neg => Sys2Proof.Machine.execNeg s
  | .retn => Sys2Proof.Machine.execRetn s
  | .reti => Sys2Proof.Machine.execReti s
  | .im0 => Sys2Proof.Machine.execIm0 s
  | .im1 => Sys2Proof.Machine.execIm1 s
  | .im2 => Sys2Proof.Machine.execIm2 s
  | .ldIA => Sys2Proof.Machine.execLdIA s
  | .ldRA => Sys2Proof.Machine.execLdRA s
  | .ldAI => Sys2Proof.Machine.execLdAI s
  | .ldAR => Sys2Proof.Machine.execLdAR s
  | .rld => Sys2Proof.Machine.execRld s
  | .rrd => Sys2Proof.Machine.execRrd s
  | .ldi => Sys2Proof.Machine.execLdi s
  | .ldd => Sys2Proof.Machine.execLdd s
  | .ldir => Sys2Proof.Machine.execLdir s
  | .lddr => Sys2Proof.Machine.execLddr s
  | .cpi => Sys2Proof.Machine.execCpi s
  | .cpd => Sys2Proof.Machine.execCpd s
  | .cpir => Sys2Proof.Machine.execCpir s
  | .cpdr => Sys2Proof.Machine.execCpdr s
  | .ini => Sys2Proof.Machine.execIni s
  | .ind => Sys2Proof.Machine.execInd s
  | .inir => Sys2Proof.Machine.execInir s
  | .indr => Sys2Proof.Machine.execIndr s
  | .outi => Sys2Proof.Machine.execOuti s
  | .outd => Sys2Proof.Machine.execOutd s
  | .otir => Sys2Proof.Machine.execOtir s
  | .otdr => Sys2Proof.Machine.execOtdr s
  | .unknownEd op => Sys2Proof.Machine.execUnknownEd op s
  | .ldXyImm xy nn => Sys2Proof.Machine.execLdXyImm xy nn s
  | .ldAbsXy xy nn => Sys2Proof.Machine.execLdAbsXy xy nn s
  | .ldXyAbs xy nn => Sys2Proof.Machine.execLdXyAbs xy nn s
  | .incXy xy => Sys2Proof.Machine.execIncXy xy s
  | .decXy xy => Sys2Proof.Machine.execDecXy xy s
  | .addXyRp xy p => Sys2Proof.Machine.execAddXyRp xy p s
  | .incXyH xy => Sys2Proof.Machine.execIncXyH xy s
  | .decXyH xy => Sys2Proof.Machine.execDecXyH xy s
  | .ldXyHN xy n => Sys2Proof.Machine.execLdXyHN xy n s
  | .incXyL xy => Sys2Proof.Machine.execIncXyL xy s
  | .decXyL xy => Sys2Proof.Machine.execDecXyL xy s
  | .ldXyLN xy n => Sys2Proof.Machine.execLdXyLN xy n s
  | .incXyD xy d => Sys2Proof.Machine.execIncXyD xy d s
  | .decXyD xy d => Sys2Proof.Machine.execDecXyD xy d s
  | .ldXyDN xy d n => Sys2Proof.Machine.execLdXyDN xy d n s
  | .aluXyH xy op => Sys2Proof.Machine.execAluXyH xy op s
  | .aluXyL xy op => Sys2Proof.Machine.execAluXyL xy op s
  | .aluXyD xy op d => Sys2Proof.Machine.execAluXyD xy op d s
  | .ldRXyD xy r d => Sys2Proof.Machine.execLdRXyD xy r d s
  | .ldXyDR xy d r => Sys2Proof.Machine.execLdXyDR xy d r s
  | .ldHalf xy dst src => Sys2Proof.Machine.execLdHalf xy dst src s
  | .popXy xy => Sys2Proof.Machine.execPopXy xy s
  | .pushXy xy => Sys2Proof.Machine.execPushXy xy s
  | .exSpXy xy => Sys2Proof.Machine.execExSpXy xy s
  | .jpXy xy => Sys2Proof.Machine.execJpXy xy s
  | .ldSpXy xy => Sys2Proof.Machine.execLdSpXy xy s
  | .prefixXyCB xy => Sys2Proof.Machine.execPrefixXyCB xy s
  | .fallback xy inner => Sys2Proof.Machine.execFallback xy inner s
  | .rlcXyD xy d z => Sys2Proof.Machine.execRlcXyD xy d z s
  | .rrcXyD xy d z => Sys2Proof.Machine.execRrcXyD xy d z s
  | .rlXyD xy d z => Sys2Proof.Machine.execRlXyD xy d z s
  | .rrXyD xy d z => Sys2Proof.Machine.execRrXyD xy d z s
  | .slaXyD xy d z => Sys2Proof.Machine.execSlaXyD xy d z s
  | .sraXyD xy d z => Sys2Proof.Machine.execSraXyD xy d z s
  | .sllXyD xy d z => Sys2Proof.Machine.execSllXyD xy d z s
  | .srlXyD xy d z => Sys2Proof.Machine.execSrlXyD xy d z s
  | .bitXyD xy d b z => Sys2Proof.Machine.execBitXyD xy d b z s
  | .resXyD xy d b z => Sys2Proof.Machine.execResXyD xy d b z s
  | .setXyD xy d b z => Sys2Proof.Machine.execSetXyD xy d b z s

end Sys2Proof.Machine
end

