-- ==== Sys2Proof/Machine/Interrupt.lean ====
section
/-! DEFINITION. The interrupt state machine (60_exceptions.md R507 to R513), evaluated once at the end of every step. -/

namespace Sys2Proof.Machine

/-- The delayed enable: at the end of the delay both flip-flops are set (R507 (a)). -/
def State.countDelay (s : State) : State :=
  match s.eiDelay with
  | 0 => s
  | 1 => { s with eiDelay := 0, iff1 := true, iff2 := true }
  | n + 2 => { s with eiDelay := n + 1 }

/-- `accept_nmi()` (R508). -/
def State.acceptNmi (s : State) : State := s.takeNmi.tick s.params.cycleTable.nmi

/-- `mode0()`: the data byte runs as a one-byte base instruction with PC unchanged; its cost is 2 and its base cost (R510,
R617, log 8). A prefix or an opcode with operand bytes is refused (R510, log 7). -/
def modeZero (s : State) : Host.Outcome State Fault Refusal :=
  match decode s.params.edIoC [s.intData] with
  | .ok (i, _) =>
    andThen (exec i s) fun t =>
      .next
        { t with cycles := s.params.count (s.cycles + s.params.cycleTable.modeZero + baseCost s.params.cycleTable i) }
  | .error _ => .refused (.modeZeroNeedsOperands s.intData)

/-- `mode1()` (R511). -/
def State.modeOne (s : State) : State := (s.enterHandler modeOneEntry).tick s.params.cycleTable.modeOne

/-- `mode2()` (R512). -/
def State.modeTwo (s : State) : State := s.enterVector.tick s.params.cycleTable.modeTwo

/-- `accept_maskable()`: IM = 3 emits the diagnostic and changes nothing else (R509, R513). -/
def acceptMaskable (s : State) : Host.Outcome State Fault Refusal :=
  if s.im = 0 then modeZero s.takeMaskable
  else if s.im = 1 then .next s.takeMaskable.modeOne
  else if s.im = 2 then .next s.takeMaskable.modeTwo
  else .next (s.diag (.unsupportedInterruptMode s.im))

/-- Whether a pending maskable interrupt is accepted now (R507 (c)). -/
def State.maskableDue (s : State) : Bool := s.intPending && s.iff1 && s.eiDelay == 0

/-- Steps (b) and (c) of `interrupt_eval()`: at most one acceptance, the NMI first (R507). -/
def arbitrate (s : State) : Host.Outcome State Fault Refusal :=
  if s.nmiPending then .next s.acceptNmi
  else if s.maskableDue then acceptMaskable s
  else .next s

/-- `interrupt_eval()` (R507). -/
def interruptEval (s : State) : Host.Outcome State Fault Refusal := arbitrate s.countDelay

end Sys2Proof.Machine
end

