-- ==== Sys2Proof/Machine/Driver.lean ====
section
/-! DEFINITION. The step driver (60_exceptions.md R503, R504). -/

namespace Sys2Proof.Machine

/-- One instruction: its bytes are fetched, it has its effect, and its base cost is added (R503, R610; 20_memory.md R66). -/
def runInstr (i : Instr) (s : State) : Host.Outcome State Fault Refusal :=
  andThen (exec i (s.fetch i.size)) fun t => .next (t.tick (baseCost s.params.cycleTable i))

/-- `execute one instruction`, then the interrupt state machine. Where the prefixes never end, the fetch goes on for ever and
the interrupt state machine is not reached (R503, 44_index.md R353, log 6). -/
def executeOne (s : State) : Host.Outcome State Fault Refusal :=
  match s.instrAt with
  | some i => andThen (runInstr i s) interruptEval
  | none => .next s.hangOn

/-- The no-op of a halted step: no bus call, PC unchanged (R503, R520). -/
def State.haltedNoOp (s : State) : State := s.tick haltedCost

/-- `step()`: R counts once, one instruction or one halted no-op, then the interrupt state machine once (R503, R504). A
hung machine is still inside a `step()` that never completes: what it does next is one more prefix byte fetched (R353). -/
def stepOnce (s : State) : Host.Outcome State Fault Refusal :=
  if s.hung then .next s.hangOn
  else if s.halted then interruptEval s.incR.haltedNoOp
  else executeOne s.incR

end Sys2Proof.Machine
end

