-- ==== Sys2Proof/Machine/HostOps.lean ====
section
/-! DEFINITION. What the host can do to the machine between steps (60_exceptions.md R521), `step` apart: the operations as
functions on the state (log 14). -/

namespace Sys2Proof.Machine

/-- The parameter `RESET_DRAW` of 00_scope.md R7: one value for each element that the reset list does not name
(70_reset_and_hazards.md R601). -/
structure ResetDraw where
  b : Byte
  c : Byte
  d : Byte
  e : Byte
  h : Byte
  l : Byte
  a' : Byte
  f' : Byte
  b' : Byte
  c' : Byte
  d' : Byte
  e' : Byte
  h' : Byte
  l' : Byte
  ix : Word
  iy : Word
  i : Byte
  addrReg : Word
  intData : Byte
deriving DecidableEq, Repr

/-- `reset()` (R600) with a draw (R601): it makes no bus call and emits no diagnostic (R602); what is behind the bus and the
parameters stay. The host calls it between steps (R503), so never on a hung machine (log 6). -/
def State.resetWith (s : State) (w : ResetDraw) : State :=
  { State.reset with
    b := w.b, c := w.c, d := w.d, e := w.e, h := w.h, l := w.l
    a' := w.a', f' := w.f', b' := w.b', c' := w.c', d' := w.d', e' := w.e', h' := w.h', l' := w.l'
    ix := w.ix, iy := w.iy, i := w.i, addrReg := w.addrReg, intData := w.intData
    mem := s.mem, bus := s.bus, diags := s.diags, answers := s.answers, inputs := s.inputs, portReads := s.portReads
    params := s.params }

/-- `requestNMI()` (60_exceptions.md R505). -/
def State.requestNmi (s : State) : State := { s with nmiPending := true }

/-- `requestMaskableInterrupt(d)` (60_exceptions.md R506). -/
def State.requestMaskable (s : State) (d : Byte) : State := { s with intPending := true, intData := d }

/-- The host's subtraction from the cycle counter (10_state.md R39). -/
def State.subtractCycles (s : State) (n : Nat) : State := { s with cycles := s.cycles - n }

/-- `dumpState()`: the four bytes at PC are read; the text is not specified (60_exceptions.md R519, log 19). -/
def State.dumpState (s : State) : State :=
  (((s.sawRead s.pc).sawRead (s.pc + 1)).sawRead (s.pc + 2)).sawRead (s.pc + 3)

/-- The host's answers for the coming `readByte` calls, put behind those it already has (20_memory.md R61, log 1). -/
def State.offerReads (s : State) (vs : List (Option Byte)) : State := { s with answers := s.answers ++ vs }

/-- The host's answers for the coming `portIn` calls, put behind those it already has (20_memory.md R61, log 4). -/
def State.offerInputs (s : State) (vs : List Byte) : State := { s with inputs := s.inputs ++ vs }

/-- The host puts bytes into its memory from an address on, without a bus call of the core (00_scope.md R5, log 12). -/
def State.place (s : State) : List Byte → Word → State
  | [], _ => s
  | v :: vs, addr => State.place { s with mem := Memory.write s.mem addr.toNat v } vs (addr + 1)

end Sys2Proof.Machine
end

