-- ==== Sys2Proof/Machine/Step.lean ====
section
/-! DEFINITION. One step of the machine, and the placing of an instruction where the next step fetches it. -/

namespace Sys2Proof.Machine

/-- One step: `step()` of 60_exceptions.md R503, or one more fetch of a `step()` that never completes (log 6). -/
def step : State → Host.Outcome State Fault Refusal := stepOnce

/-- The state with an opcode-table word, and zero bytes after it, at PC, where the host answers from memory and the CPU is
neither halted nor hung (log 12). -/
def State.withFetchWord (s : State) (nbits w : Nat) : State :=
  { s.place (tableBytes nbits w ++ List.replicate 8 0) s.pc with halted := false, hung := false, answers := [] }

end Sys2Proof.Machine
end

