-- ==== Sys2Proof/WellFormed.lean ====
section
/-! DEFINITION. Which terms of `Instr` are instructions: the constraints of spec/opcode_table.json that the operand types
do not already say. -/

namespace Sys2Proof

/-- The rows that are a prefix alone and no complete instruction (R317, R318, R319, R378). -/
def Instr.isPrefixRow : Instr → Bool
  | .prefixCB => true
  | .prefixED => true
  | .prefixXY _ => true
  | .prefixXyCB _ => true
  | _ => false

/-- The byte an encoding begins with is absent from the index table (R112). -/
def fallsBack : List Byte → Bool
  | [] => false
  | b1 :: _ => !inIndexTable b1

/-- Well-formed: JR has conditions NZ, Z, NC and C only (R304); an RST target is `y * 8` (R310); an unknown ED byte is not
a known entry (R466); `IN r,(C)` and `OUT (C),r` are known only under `ED_IO_C`, the argument `io` (R432, R433); `LD r',r''` of the index
table names a half (R372); a fallback goes before a complete well-formed instruction whose first byte the index table
lacks (R352). -/
def Instr.wf (io : Bool) : Instr → Bool
  | .jrCc cc _ => cc.isRelative
  | .rst p => (p &&& 0xC7) == 0
  | .inRC _ => io
  | .outCR _ => io
  | .unknownEd op => !knownEd io op
  | .ldHalf _ dst src => dst.isHalf || src.isHalf
  | .fallback _ i => i.wf io && !i.isPrefixRow && fallsBack (encode i)
  | _ => true

end Sys2Proof
end

