-- ==== Sys2Proof/Safety.lean ====
section
/-! DEFINITION. The terms claims use: the states the spec calls legal, the states whose step ends, and, after 10_state.md R43 and
R45, what an instruction may change. -/

namespace Sys2Proof

/-- The instruction behind any ignored index prefixes (44_index.md R352). -/
def Instr.core : Instr → Instr
  | .fallback _ i => i.core
  | i => i

/-- A complete, well-formed instruction: what a decoding answers (30_encoding.md R119). The argument is `ED_IO_C`. -/
def Instr.complete (io : Bool) (i : Instr) : Prop := i.wf io = true ∧ i.isPrefixRow = false

end Sys2Proof

namespace Sys2Proof.Machine

/-- The invariant of 10_state.md R41 that the types do not already say, the canonical form of memory, and the cycle counter
within `CYCLE_WIDTH` (R39). -/
def State.legal (s : State) : Prop :=
  s.mem.wf = true ∧ s.im ≠ 3 ∧ s.eiDelay ≤ s.params.eiDelay ∧ s.params.count s.cycles = s.cycles

/-- Fetching from PC on meets a byte that is no index prefix: the fetch of an instruction ends (44_index.md R353). -/
def State.prefixesEnd (s : State) : Prop := ∃ n, ∃ b ∈ s.bytesAt n s.pc, b ≠ 0xDD ∧ b ≠ 0xFD

/-- The bus calls that fetching `n` bytes from an address on makes, newest first: one read of each byte, in address order
(20_memory.md R65, R66). -/
def State.fetchReads (s : State) : Nat → Word → List BusEvent
  | 0, _ => []
  | n + 1, addr => (s.sawRead addr).fetchReads n (addr + 1) ++ [.read addr (s.peek addr)]

/-- The state with other undocumented flags fY and fX. -/
def State.withYX (s : State) (y x : Bool) : State := { s with f := { s.f with y := y, x := x } }

/-! ### What an instruction may change (10_state.md R43, R45) -/

/-- The registers of a pair that are among the seven (R21). -/
def pairRegs : RPair → List Reg8
  | .bc => [.b, .c] | .de => [.d, .e] | .hl => [.h, .l] | .sp => []

/-- The registers of a stack pair that are among the seven (R21). -/
def stackPairRegs : RPair2 → List Reg8
  | .bc => [.b, .c] | .de => [.d, .e] | .hl => [.h, .l] | .af => [.a]

/-- The register among the seven that an index-table operand names; a half is none of them (R350). -/
def xregRegs : XReg → List Reg8
  | .b => [.b] | .c => [.c] | .d => [.d] | .e => [.e] | .xyh => [] | .xyl => [] | .a => [.a]

/-- Where an ALU operation leaves its result: CP keeps none (R258). -/
def aluRegs : AluOp → List Reg8
  | .cp => []
  | _ => [.a]

/-- The registers among A, B, C, D, E, H, L that a complete instruction may write. -/
def destRegs : Instr → List Reg8
  | .ldRR dst _ => [dst]
  | .ldRN r _ | .ldRM r | .incR r | .decR r | .ldRXyD _ r _ | .inRC r => [r]
  | .rlcR r | .rrcR r | .rlR r | .rrR r | .slaR r | .sraR r | .sllR r | .srlR r | .resR _ r | .setR _ r => [r]
  | .ldABc | .ldADe | .ldAAbs _ | .inAN _ | .ldAI | .ldAR | .neg | .rld | .rrd => [.a]
  | .daa | .cpl | .rlca | .rrca | .rla | .rra | .exAf => [.a]
  | .addR _ | .addM | .addN _ | .adcR _ | .adcM | .adcN _ | .subR _ | .subM | .subN _ | .sbcR _ | .sbcM | .sbcN _ => [.a]
  | .andR _ | .andM | .andN _ | .xorR _ | .xorM | .xorN _ | .orR _ | .orM | .orN _ => [.a]
  | .aluXyH _ op | .aluXyL _ op | .aluXyD _ op _ => aluRegs op
  | .ldHalf _ dst _ => xregRegs dst
  | .ldRpImm p _ | .incRp p | .decRp p | .ldRpAbs p _ => pairRegs p
  | .pop p => stackPairRegs p
  | .ldHlAbs _ | .exSpHl | .addHlRp _ | .sbcHlRp _ | .adcHlRp _ => [.h, .l]
  | .exDeHl => [.d, .e, .h, .l]
  | .exx => [.b, .c, .d, .e, .h, .l]
  | .djnz _ => [.b]
  | .ldi | .ldd | .ldir | .lddr => [.b, .c, .d, .e, .h, .l]
  | .cpi | .cpd | .cpir | .cpdr => [.b, .c, .h, .l]
  | .ini | .ind | .inir | .indr | .outi | .outd | .otir | .otdr => [.b, .h, .l]
  | .ldMR _ | .ldMN _ | .ldBcA | .ldDeA | .ldAbsA _ | .ldAbsHl _ | .ldSpHl | .push _ | .cpR _ | .cpM | .cpN _ | .incM
  | .decM | .scf | .ccf | .nop | .jp _ | .jpCc _ _ | .jr _ | .jrCc _ _ | .jpHl | .call _ | .callCc _ _ | .ret
  | .retCc _ | .rst _ | .outNA _ | .halt | .di | .ei | .prefixCB | .prefixED | .prefixXY _ | .rlcM | .rrcM | .rlM
  | .rrM | .slaM | .sraM | .sllM | .srlM | .bitR _ _ | .bitM _ | .resM _ | .setM _ | .outCR _ | .ldAbsRp _ _ | .retn
  | .reti | .im0 | .im1 | .im2 | .ldIA | .ldRA | .unknownEd _ | .ldXyImm _ _ | .ldAbsXy _ _ | .ldXyAbs _ _ | .incXy _
  | .decXy _ | .addXyRp _ _ | .incXyH _ | .decXyH _ | .ldXyHN _ _ | .incXyL _ | .decXyL _ | .ldXyLN _ _ | .incXyD _ _
  | .decXyD _ _ | .ldXyDN _ _ _ | .ldXyDR _ _ _ | .popXy _ | .pushXy _ | .exSpXy _ | .jpXy _ | .ldSpXy _
  | .prefixXyCB _ | .fallback _ _ | .rlcXyD _ _ _ | .rrcXyD _ _ _ | .rlXyD _ _ _ | .rrXyD _ _ _ | .slaXyD _ _ _
  | .sraXyD _ _ _ | .sllXyD _ _ _ | .srlXyD _ _ _ | .bitXyD _ _ _ _ | .resXyD _ _ _ _ | .setXyD _ _ _ _ => []

/-- All eight flags. -/
def allFlags : List (Flags → Bool) :=
  [Flags.s, Flags.z, Flags.y, Flags.h, Flags.x, Flags.pv, Flags.n, Flags.c]

/-- The flags a pop leaves unchanged: POP AF writes all eight (R216). -/
def popFlags : RPair2 → List (Flags → Bool)
  | .af => []
  | .bc | .de | .hl => allFlags

/-- The flags a complete instruction leaves unchanged: the `-` entries of R45's table, and all of them for an instruction
the table does not list. -/
def keptFlags : Instr → List (Flags → Bool)
  | .addR _ | .addM | .addN _ | .adcR _ | .adcM | .adcN _ | .subR _ | .subM | .subN _ | .sbcR _ | .sbcM | .sbcN _ => []
  | .andR _ | .andM | .andN _ | .xorR _ | .xorM | .xorN _ | .orR _ | .orM | .orN _ | .cpR _ | .cpM | .cpN _ => []
  | .aluXyH _ _ | .aluXyL _ _ | .aluXyD _ _ _ | .neg | .adcHlRp _ | .sbcHlRp _ => []
  | .rlcR _ | .rlcM | .rrcR _ | .rrcM | .rlR _ | .rlM | .rrR _ | .rrM => []
  | .slaR _ | .slaM | .sraR _ | .sraM | .sllR _ | .sllM | .srlR _ | .srlM => []
  | .rlcXyD _ _ _ | .rrcXyD _ _ _ | .rlXyD _ _ _ | .rrXyD _ _ _ => []
  | .slaXyD _ _ _ | .sraXyD _ _ _ | .sllXyD _ _ _ | .srlXyD _ _ _ => []
  | .exAf => []
  | .pop p => popFlags p
  | .incR _ | .incM | .decR _ | .decM | .incXyH _ | .decXyH _ | .incXyL _ | .decXyL _ | .incXyD _ _ | .decXyD _ _ =>
    [Flags.c]
  | .bitR _ _ | .bitM _ | .bitXyD _ _ _ _ | .ldAI | .ldAR | .rld | .rrd | .inRC _ => [Flags.c]
  | .cpi | .cpd | .cpir | .cpdr => [Flags.c]
  | .addHlRp _ | .addXyRp _ _ | .scf | .ccf | .rlca | .rrca | .rla | .rra => [Flags.s, Flags.z, Flags.pv]
  | .cpl => [Flags.s, Flags.z, Flags.pv, Flags.c]
  | .daa => [Flags.n]
  | .ldi | .ldd | .ldir | .lddr => [Flags.s, Flags.z, Flags.c]
  | .ini | .ind | .inir | .indr | .outi | .outd | .otir | .otdr =>
    [Flags.s, Flags.y, Flags.h, Flags.x, Flags.pv, Flags.c]
  | .ldRR _ _ | .ldRN _ _ | .ldRM _ | .ldMR _ | .ldMN _ | .ldABc | .ldADe | .ldBcA | .ldDeA | .ldAAbs _ | .ldAbsA _
  | .ldRpImm _ _ | .ldHlAbs _ | .ldAbsHl _ | .ldSpHl | .push _ | .exDeHl | .exx | .exSpHl | .incRp _ | .decRp _
  | .nop | .jp _ | .jpCc _ _ | .jr _ | .jrCc _ _ | .djnz _ | .jpHl | .call _ | .callCc _ _ | .ret | .retCc _ | .rst _
  | .outNA _ | .inAN _ | .halt | .di | .ei | .prefixCB | .prefixED | .prefixXY _ | .resR _ _ | .resM _ | .setR _ _
  | .setM _ | .outCR _ | .ldAbsRp _ _ | .ldRpAbs _ _ | .retn | .reti | .im0 | .im1 | .im2 | .ldIA | .ldRA
  | .unknownEd _ | .ldXyImm _ _ | .ldAbsXy _ _ | .ldXyAbs _ _ | .incXy _ | .decXy _ | .ldXyHN _ _ | .ldXyLN _ _
  | .ldXyDN _ _ _ | .ldRXyD _ _ _ | .ldXyDR _ _ _ | .ldHalf _ _ _ | .popXy _ | .pushXy _ | .exSpXy _ | .jpXy _
  | .ldSpXy _ | .prefixXyCB _ | .fallback _ _ | .resXyD _ _ _ _ | .setXyD _ _ _ _ => allFlags

/-- The two addresses of a push (41_base_load.md R215). -/
def pushAddrs (s : State) : List Word := [s.sp - 1, s.sp - 2]

/-- The addresses a complete instruction stores to, from the state its meaning runs in. -/
def storeAddrs (s : State) : Instr → List Word
  | .ldMR _ | .ldMN _ | .incM | .decM | .rld | .rrd => [s.hl]
  | .rlcM | .rrcM | .rlM | .rrM | .slaM | .sraM | .sllM | .srlM | .resM _ | .setM _ => [s.hl]
  | .ini | .ind | .inir | .indr => [s.hl]
  | .ldBcA => [s.bc]
  | .ldDeA | .ldi | .ldd | .ldir | .lddr => [s.de]
  | .ldAbsA nn => [nn]
  | .ldAbsHl nn | .ldAbsRp nn _ | .ldAbsXy _ nn => [nn, nn + 1]
  | .push _ | .pushXy _ | .call _ | .rst _ => pushAddrs s
  | .callCc cc _ => if s.f.holds cc then pushAddrs s else []
  | .exSpHl | .exSpXy _ => [s.sp + 1, s.sp]
  | .incXyD xy d | .decXyD xy d | .ldXyDN xy d _ | .ldXyDR xy d _ => [s.ea xy d]
  | .rlcXyD xy d _ | .rrcXyD xy d _ | .rlXyD xy d _ | .rrXyD xy d _ => [s.ea xy d]
  | .slaXyD xy d _ | .sraXyD xy d _ | .sllXyD xy d _ | .srlXyD xy d _ => [s.ea xy d]
  | .resXyD xy d _ _ | .setXyD xy d _ _ => [s.ea xy d]
  | .ldRR _ _ | .ldRN _ _ | .ldRM _ | .ldABc | .ldADe | .ldAAbs _ | .ldRpImm _ _ | .ldHlAbs _ | .ldSpHl | .pop _
  | .exDeHl | .exAf | .exx | .addR _ | .addM | .addN _ | .adcR _ | .adcM | .adcN _ | .subR _ | .subM | .subN _
  | .sbcR _ | .sbcM | .sbcN _ | .andR _ | .andM | .andN _ | .xorR _ | .xorM | .xorN _ | .orR _ | .orM | .orN _
  | .cpR _ | .cpM | .cpN _ | .incR _ | .decR _ | .incRp _ | .decRp _ | .addHlRp _ | .daa | .cpl | .scf | .ccf | .rlca
  | .rrca | .rla | .rra | .nop | .jp _ | .jpCc _ _ | .jr _ | .jrCc _ _ | .djnz _ | .jpHl | .ret | .retCc _ | .outNA _
  | .inAN _ | .halt | .di | .ei | .prefixCB | .prefixED | .prefixXY _ | .rlcR _ | .rrcR _ | .rlR _ | .rrR _ | .slaR _
  | .sraR _ | .sllR _ | .srlR _ | .bitR _ _ | .bitM _ | .resR _ _ | .setR _ _ | .inRC _ | .outCR _ | .sbcHlRp _
  | .adcHlRp _ | .ldRpAbs _ _ | .neg | .retn | .reti | .im0 | .im1 | .im2 | .ldIA | .ldRA | .ldAI | .ldAR | .cpi
  | .cpd | .cpir | .cpdr | .outi | .outd | .otir | .otdr | .unknownEd _ | .ldXyImm _ _ | .ldXyAbs _ _ | .incXy _
  | .decXy _ | .addXyRp _ _ | .incXyH _ | .decXyH _ | .ldXyHN _ _ | .incXyL _ | .decXyL _ | .ldXyLN _ _ | .aluXyH _ _
  | .aluXyL _ _ | .aluXyD _ _ _ | .ldRXyD _ _ _ | .ldHalf _ _ _ | .popXy _ | .jpXy _ | .ldSpXy _ | .prefixXyCB _
  | .fallback _ _ | .bitXyD _ _ _ _ => []

/-- The parts of the state beside the seven registers, the flags, PC, the cycle counter, memory and the bus trace; `reads` and
`ports` are what the host has ready to answer. -/
inductive Part where
  | sp | ix | iy | vector | refresh | addrReg | iff1 | iff2 | mode | halted | delay | shadowAf | shadowBank | reads | ports
  | diags
deriving DecidableEq, Repr

/-- Two states agree on a part. -/
def Part.same (p : Part) (s t : State) : Prop :=
  match p with
  | .sp => t.sp = s.sp
  | .ix => t.ix = s.ix
  | .iy => t.iy = s.iy
  | .vector => t.i = s.i
  | .refresh => t.r = s.r
  | .addrReg => t.addrReg = s.addrReg
  | .iff1 => t.iff1 = s.iff1
  | .iff2 => t.iff2 = s.iff2
  | .mode => t.im = s.im
  | .halted => t.halted = s.halted
  | .delay => t.eiDelay = s.eiDelay
  | .shadowAf => t.a' = s.a' ∧ t.f' = s.f'
  | .shadowBank => t.b' = s.b' ∧ t.c' = s.c' ∧ t.d' = s.d' ∧ t.e' = s.e' ∧ t.h' = s.h' ∧ t.l' = s.l'
  | .reads => t.answers = s.answers
  | .ports => t.inputs = s.inputs ∧ t.portReads = s.portReads
  | .diags => t.diags = s.diags

/-- The part an index register is. -/
def xyPart : Idx → Part
  | .ix => .ix | .iy => .iy

/-- The part SP, where a pair is SP. -/
def spPart : RPair → List Part
  | .sp => [.sp]
  | _ => []

/-- The part an index-table destination is, where it is a half (R350). -/
def xregParts (xy : Idx) : XReg → List Part
  | .xyh => [xyPart xy] | .xyl => [xyPart xy] | _ => []

/-- The parts a complete instruction may change: R43's rows for IX, IY, SP, I, R, the flip-flops and IM; R25 and R26 for the
shadow set; R32 for addr_reg; R35, R38 for halted and the delay; R61 for the answers a read of memory or a port uses up; R466
for the diagnostics. -/
def changedParts : Instr → List Part
  | .ldSpHl | .ldSpXy _ | .push _ | .pushXy _ | .call _ | .callCc _ _ | .rst _ => [.sp]
  | .pop _ | .ret | .retCc _ | .reti => [.sp, .reads]
  | .retn => [.sp, .iff1, .reads]
  | .ldRpImm p _ | .incRp p | .decRp p => spPart p
  | .ldRpAbs p _ => .reads :: spPart p
  | .addHlRp _ | .adcHlRp _ | .sbcHlRp _ => [.addrReg]
  | .addXyRp xy _ => [xyPart xy, .addrReg]
  | .ldXyImm xy _ | .incXy xy | .decXy xy => [xyPart xy]
  | .ldXyAbs xy _ | .exSpXy xy => [xyPart xy, .reads]
  | .popXy xy => [xyPart xy, .sp, .reads]
  | .incXyH xy | .decXyH xy | .ldXyHN xy _ | .incXyL xy | .decXyL xy | .ldXyLN xy _ => [xyPart xy]
  | .ldHalf xy dst _ => xregParts xy dst
  | .ldXyDN _ _ _ | .ldXyDR _ _ _ => [.addrReg]
  | .incXyD _ _ | .decXyD _ _ | .aluXyD _ _ _ | .ldRXyD _ _ _ => [.addrReg, .reads]
  | .rlcXyD _ _ _ | .rrcXyD _ _ _ | .rlXyD _ _ _ | .rrXyD _ _ _ => [.addrReg, .reads]
  | .slaXyD _ _ _ | .sraXyD _ _ _ | .sllXyD _ _ _ | .srlXyD _ _ _ => [.addrReg, .reads]
  | .bitXyD _ _ _ _ | .resXyD _ _ _ _ | .setXyD _ _ _ _ => [.addrReg, .reads]
  | .cpi | .cpd | .cpir | .cpdr | .outi | .outd | .otir | .otdr => [.addrReg, .reads]
  | .ldRM _ | .ldABc | .ldADe | .ldAAbs _ | .ldHlAbs _ | .exSpHl | .incM | .decM => [.reads]
  | .addM | .adcM | .subM | .sbcM | .andM | .xorM | .orM | .cpM => [.reads]
  | .rlcM | .rrcM | .rlM | .rrM | .slaM | .sraM | .sllM | .srlM | .bitM _ | .resM _ | .setM _ => [.reads]
  | .rld | .rrd | .ldi | .ldd | .ldir | .lddr => [.reads]
  | .ini | .ind | .inir | .indr => [.addrReg, .ports]
  | .inAN _ | .inRC _ => [.ports]
  | .ldIA => [.vector]
  | .ldRA => [.refresh]
  | .di => [.iff1, .iff2, .delay]
  | .ei => [.delay]
  | .im0 | .im1 | .im2 => [.mode]
  | .halt => [.halted]
  | .exAf => [.shadowAf]
  | .exx => [.shadowBank]
  | .unknownEd _ => [.diags]
  | .ldRR _ _ | .ldRN _ _ | .ldMR _ | .ldMN _ | .ldBcA | .ldDeA | .ldAbsA _ | .ldAbsHl _ | .exDeHl | .addR _ | .addN _
  | .adcR _ | .adcN _ | .subR _ | .subN _ | .sbcR _ | .sbcN _ | .andR _ | .andN _ | .xorR _ | .xorN _ | .orR _ | .orN _
  | .cpR _ | .cpN _ | .incR _ | .decR _ | .daa | .cpl | .scf | .ccf | .rlca | .rrca | .rla | .rra | .nop | .jp _
  | .jpCc _ _ | .jr _ | .jrCc _ _ | .djnz _ | .jpHl | .outNA _ | .prefixCB | .prefixED | .prefixXY _ | .rlcR _ | .rrcR _
  | .rlR _ | .rrR _ | .slaR _ | .sraR _ | .sllR _ | .srlR _ | .bitR _ _ | .resR _ _ | .setR _ _ | .outCR _
  | .ldAbsRp _ _ | .neg | .ldAI | .ldAR | .ldAbsXy _ _ | .aluXyH _ _ | .aluXyL _ _ | .jpXy _ | .prefixXyCB _
  | .fallback _ _ => []

/-! ### The cost of an instruction by the rules (70_reset_and_hazards.md R611 to R615) -/

/-- The base cost the tables of R611 to R615 give a form of instruction; a prefix alone has none. -/
def ruleCost : Instr → Nat
  | .prefixCB | .prefixED | .prefixXY _ => 0
  | .ldRR _ _ | .exDeHl | .exAf | .exx | .addR _ | .adcR _ | .subR _ | .sbcR _ | .andR _ | .xorR _ | .orR _ | .cpR _
  | .incR _ | .decR _ | .daa | .cpl | .scf | .ccf | .rlca | .rrca | .rla | .rra | .nop | .jpHl | .halt | .di | .ei => 4
  | .retCc _ => 5
  | .ldSpHl | .incRp _ | .decRp _ => 6
  | .ldRN _ _ | .ldRM _ | .ldMR _ | .ldABc | .ldADe | .ldBcA | .ldDeA | .addM | .addN _ | .adcM | .adcN _ | .subM
  | .subN _ | .sbcM | .sbcN _ | .andM | .andN _ | .xorM | .xorN _ | .orM | .orN _ | .cpM | .cpN _ | .jrCc _ _ => 7
  | .djnz _ => 8
  | .ldMN _ | .ldRpImm _ _ | .pop _ | .jp _ | .jpCc _ _ | .callCc _ _ | .ret => 10
  | .push _ | .incM | .decM | .addHlRp _ | .rst _ | .outNA _ | .inAN _ => 11
  | .jr _ => 12
  | .ldAAbs _ | .ldAbsA _ => 13
  | .ldHlAbs _ | .ldAbsHl _ => 16
  | .call _ => 17
  | .exSpHl => 19
  | .rlcR _ | .rrcR _ | .rlR _ | .rrR _ | .slaR _ | .sraR _ | .sllR _ | .srlR _ | .bitR _ _ | .resR _ _ | .setR _ _ => 8
  | .bitM _ => 12
  | .rlcM | .rrcM | .rlM | .rrM | .slaM | .sraM | .sllM | .srlM | .resM _ | .setM _ => 15
  | .neg | .im0 | .im1 | .im2 | .unknownEd _ => 8
  | .ldIA | .ldRA | .ldAI | .ldAR => 9
  | .inRC _ | .outCR _ => 12
  | .retn | .reti => 14
  | .sbcHlRp _ | .adcHlRp _ => 15
  | .ldi | .ldd | .ldir | .lddr | .cpi | .cpd | .cpir | .cpdr | .ini | .ind | .inir | .indr | .outi | .outd | .otir
  | .otdr => 16
  | .rld | .rrd => 18
  | .ldAbsRp _ _ | .ldRpAbs _ _ => 20
  | .prefixXyCB _ => 0
  | .incXyH _ | .decXyH _ | .incXyL _ | .decXyL _ | .aluXyH _ _ | .aluXyL _ _ | .ldHalf _ _ _ | .jpXy _ => 8
  | .incXy _ | .decXy _ | .ldSpXy _ => 10
  | .ldXyHN _ _ | .ldXyLN _ _ => 11
  | .ldXyImm _ _ | .popXy _ => 14
  | .addXyRp _ _ | .pushXy _ => 15
  | .ldXyDN _ _ _ | .aluXyD _ _ _ | .ldRXyD _ _ _ | .ldXyDR _ _ _ => 19
  | .ldAbsXy _ _ | .ldXyAbs _ _ => 20
  | .incXyD _ _ | .decXyD _ _ | .exSpXy _ => 23
  | .fallback _ i => 4 + ruleCost i
  | .bitXyD _ _ _ _ => 20
  | .rlcXyD _ _ _ | .rrcXyD _ _ _ | .rlXyD _ _ _ | .rrXyD _ _ _ | .slaXyD _ _ _ | .sraXyD _ _ _ | .sllXyD _ _ _
  | .srlXyD _ _ _ | .resXyD _ _ _ _ | .setXyD _ _ _ _ => 23

end Sys2Proof.Machine
end

