-- ==== Sys2Proof/Certificates/Slice0/Obligations.lean ====
section
/-! DEFINITION. The statements for the provers. Results are written as whole next states, so that a field not named keeps its
value; the frames after 10_state.md R43 and R45 and the memory frame stand apart. A statement runs `exec` on the state whose
PC is already past the instruction (10_state.md R29); the base cost is added by the step. A statement about every state is one
about every value of the parameters of 00_scope.md R7 and every answer of the host to a read (20_memory.md R61): both stand in
the state. -/

open Sys2Proof Sys2Proof.Machine

/-! ### Encoding -/

/-- Words written out from the encodings R108 to R113, with what they decode to. -/
def Obligations.DecodeSampleWords : Prop :=
  decode true [0x00] = .ok (.nop, []) ∧
  decode true [0x41] = .ok (.ldRR .b .c, []) ∧
  decode true [0x76] = .ok (.halt, []) ∧
  decode true [0x36, 0xA5] = .ok (.ldMN 0xA5, []) ∧
  decode true [0x31, 0x34, 0x12] = .ok (.ldRpImm .sp 0x1234, []) ∧
  decode true [0x9A] = .ok (.sbcR .d, []) ∧
  decode true [0xFE, 0x28] = .ok (.cpN 0x28, []) ∧
  decode true [0xFC, 0x00, 0x20] = .ok (.callCc .m 0x2000, []) ∧
  decode true [0xEF] = .ok (.rst 0x28, []) ∧
  decode true [0xCB, 0x7E] = .ok (.bitM 7, []) ∧
  decode true [0xED, 0x73, 0x00, 0x80] = .ok (.ldAbsRp 0x8000 .sp, []) ∧
  decode true [0xED, 0xB9] = .ok (.cpdr, []) ∧
  decode true [0xED, 0x4C] = .ok (.unknownEd 0x4C, []) ∧
  decode true [0xFD, 0x36, 0x80, 0x99] = .ok (.ldXyDN .iy 0x80 0x99, []) ∧
  decode true [0xDD, 0x66, 0x01] = .ok (.ldRXyD .ix .h 0x01, []) ∧
  decode true [0xDD, 0x65] = .ok (.ldHalf .ix .xyh .xyl, []) ∧
  decode true [0xFD, 0xCB, 0x03, 0xFE] = .ok (.setXyD .iy 0x03 7 6, []) ∧
  decode true [0xDD, 0xFD, 0x21, 0x34, 0x12] = .ok (.fallback .ix (.ldXyImm .iy 0x1234), []) ∧
  decodeTableWord 8 0xCB = some .prefixCB ∧
  decodeTableWord 8 0xED = some .prefixED ∧
  decodeTableWord 8 0xFD = some (.prefixXY .iy) ∧
  decodeTableWord 16 0xDDCB = some (.prefixXyCB .ix)

/-- Decoding the encoding of any complete instruction, whatever bytes follow it, gives the instruction back (R100, R108 to
R117), for both values of `ED_IO_C`. -/
def Obligations.DecodeOfEncode : Prop :=
  ∀ (io : Bool) (i : Instr) (rest : List Byte), i.complete io → decode io (encode i ++ rest) = .ok (i, rest)

/-- What a decoding answers is a complete, well-formed instruction, and the bytes it took are that instruction's encoding (R100,
R119). The terms keep every byte apart, also where the spec gives several encodings one meaning (R412, R436): that the displaced
bit operations carry the field z, which their meanings ignore, is the model's choice (log 15). -/
def Obligations.EncodeOfDecode : Prop :=
  ∀ (io : Bool) (bs : List Byte) (i : Instr) (rest : List Byte),
    decode io bs = .ok (i, rest) → i.complete io ∧ encode i ++ rest = bs

/-- No encoding is illegal: after any run of index prefixes, a byte that is none and three more bytes always decode (R119,
R352). -/
def Obligations.EveryEncodingDecodes : Prop :=
  ∀ (io : Bool) (run : List Byte) (b b1 b2 b3 : Byte) (bs : List Byte),
    (∀ p ∈ run, p = 0xDD ∨ p = 0xFD) → b ≠ 0xDD → b ≠ 0xFD →
      ∃ i rest, decode io (run ++ b :: b1 :: b2 :: b3 :: bs) = .ok (i, rest)

/-- The 86 bytes of the index table, by value and by fields (R111, R112), and the known extended opcodes (R110): 58, or
44 where `ED_IO_C` is false. -/
def Obligations.TableMembership : Prop :=
  (∀ op : Byte, inIndexTable op = true ↔
    op.toNat ∈ [0x09, 0x19, 0x29, 0x39, 0x21, 0x22, 0x23, 0x24, 0x25, 0x26, 0x2A, 0x2B, 0x2C, 0x2D, 0x2E, 0x34, 0x35, 0x36, 0xCB,
      0xE1, 0xE3, 0xE5, 0xE9, 0xF9] ∨
    (op.toNat / 64 = 1 ∧ op ≠ 0x76 ∧ (op.toNat / 8 % 8 ∈ [4, 5, 6] ∨ op.toNat % 8 ∈ [4, 5, 6])) ∨
    (op.toNat / 64 = 2 ∧ op.toNat % 8 ∈ [4, 5, 6])) ∧
  ((List.range 256).countP fun k => inIndexTable (BitVec.ofNat 8 k)) = 86 ∧
  (∀ (io : Bool) (op : Byte), knownEd io op = true ↔
    op.toNat ∈ [0x42, 0x43, 0x44, 0x45, 0x46, 0x47, 0x4A, 0x4B, 0x4D, 0x4F, 0x52, 0x53, 0x56, 0x57, 0x5A, 0x5B, 0x5E, 0x5F, 0x62,
      0x63, 0x67, 0x6A, 0x6B, 0x6F, 0x72, 0x73, 0x7A, 0x7B, 0xA0, 0xA1, 0xA2, 0xA3, 0xA8, 0xA9, 0xAA, 0xAB, 0xB0, 0xB1, 0xB2, 0xB3,
      0xB8, 0xB9, 0xBA, 0xBB] ∨
    (io = true ∧
      op.toNat ∈ [0x40, 0x41, 0x48, 0x49, 0x50, 0x51, 0x58, 0x59, 0x60, 0x61, 0x68, 0x69, 0x78, 0x79]))

/-! ### Registers, flags, memory -/

/-- A register reads back what was written and the others keep their values; pairs are views, first register high; writing a
half of an index register changes only that half (R10, R20, R21, R27). -/
def Obligations.RegisterFileReadsBack : Prop :=
  ∀ (s : State) (v : Byte) (w : Word),
    (∀ r q : Reg8, (s.setReg8 r v).reg8 q = if q = r then v else s.reg8 q) ∧
    (∀ p q : RPair, (s.setRp p w).rp q = if q = p then w else s.rp q) ∧
    (∀ xy xz : Idx, (s.setXy xy w).xy xz = if xz = xy then w else s.xy xz) ∧
    s.bc.toNat = s.b.toNat * 256 + s.c.toNat ∧
    s.de.toNat = s.d.toNat * 256 + s.e.toNat ∧
    s.hl.toNat = s.h.toNat * 256 + s.l.toNat ∧
    s.af.toNat = s.a.toNat * 256 + s.f.pack.toNat ∧
    (∀ xy : Idx, (s.setXyH xy v).xyH xy = v ∧ (s.setXyH xy v).xyL xy = s.xyL xy ∧ (s.setXyL xy v).xyL xy = v ∧
      (s.setXyL xy v).xyH xy = s.xyH xy)

/-- The packed flag byte: fS is bit 7 down to fC in bit 0, read by R23 and written by R24; both directions lose nothing. -/
def Obligations.PackedFlagByte : Prop :=
  (∀ f : Flags, f.pack.getLsbD 7 = f.s ∧ f.pack.getLsbD 6 = f.z ∧ f.pack.getLsbD 5 = f.y ∧ f.pack.getLsbD 4 = f.h ∧
    f.pack.getLsbD 3 = f.x ∧ f.pack.getLsbD 2 = f.pv ∧ f.pack.getLsbD 1 = f.n ∧ f.pack.getLsbD 0 = f.c) ∧
  (∀ f : Flags, Flags.unpack f.pack = f) ∧
  (∀ v : Byte, (Flags.unpack v).pack = v)

/-- A 16-bit access is two byte accesses, the low byte at the lower address and first, the second address wrapping (R64). -/
def Obligations.WordAccessIsTwoBytes : Prop :=
  ∀ (s : State) (x w : Word),
    let low : State := { s with answers := s.answers.tail, bus := .read x (s.peek x) :: s.bus }
    (s.peek16 x).toNat = (s.peek x).toNat + 256 * (low.peek (x + 1)).toNat ∧
    s.sawRead16 x = { low with answers := low.answers.tail, bus := .read (x + 1) (low.peek (x + 1)) :: low.bus } ∧
    s.writeWord x w = (s.writeByte x (w.extractLsb' 0 8)).writeByte (x + 1) (w.extractLsb' 8 8)

/-! ### 41_base_load.md -/

/-- `LD r,r'`, `LD r,n`, `LD rp,nn`, `LD SP,HL`, and INC and DEC of a pair, of SP and of an index register, modulo 2^16: no flag
(R200, R201, R211, R214, R263, R264, R357, R358). -/
def Obligations.RegisterLoadAndCountResults : Prop :=
  ∀ (s : State) (dst src : Reg8) (n : Byte) (p : RPair) (nn : Word) (xy : Idx),
    exec (.ldRR dst src) s = .next (s.setReg8 dst (s.reg8 src)) ∧
    exec (.ldRN dst n) s = .next (s.setReg8 dst n) ∧
    exec (.ldRpImm p nn) s = .next (s.setRp p nn) ∧
    exec .ldSpHl s = .next { s with sp := s.hl } ∧
    exec (.incRp p) s = .next (s.setRp p (s.rp p + 1)) ∧
    exec (.decRp p) s = .next (s.setRp p (s.rp p - 1)) ∧
    exec (.incXy xy) s = .next (s.setXy xy (s.xy xy + 1)) ∧
    exec (.decXy xy) s = .next (s.setXy xy (s.xy xy - 1))

/-- `LD r,(HL)`, `LD A,(BC)`, `LD A,(DE)`, `LD A,(nn)`, `LD HL,(nn)`: one bus read a byte (R202, R205, R206, R209, R212). -/
def Obligations.MemoryLoadResults : Prop :=
  ∀ (s : State) (r : Reg8) (nn : Word),
    let read := fun (u : State) (x : Word) =>
      ({ u with answers := u.answers.tail, bus := .read x (u.peek x) :: u.bus } : State)
    exec (.ldRM r) s = .next ((read s s.hl).setReg8 r (s.peek s.hl)) ∧
    exec .ldABc s = .next { read s s.bc with a := s.peek s.bc } ∧
    exec .ldADe s = .next { read s s.de with a := s.peek s.de } ∧
    exec (.ldAAbs nn) s = .next { read s nn with a := s.peek nn } ∧
    exec (.ldHlAbs nn) s = .next { read (read s nn) (nn + 1) with l := s.peek nn, h := (read s nn).peek (nn + 1) }

/-- `LD (HL),r`, `LD (HL),n`, `LD (BC),A`, `LD (DE),A`, `LD (nn),A`, `LD (nn),HL`: one bus write a byte, L before H (R203,
R204, R207, R208, R210, R213). -/
def Obligations.StoreResults : Prop :=
  ∀ (s : State) (r : Reg8) (n : Byte) (nn : Word),
    let store := fun (u : State) (x : Word) (v : Byte) =>
      ({ u with mem := Memory.write u.mem x.toNat v, bus := .write x v :: u.bus } : State)
    exec (.ldMR r) s = .next (store s s.hl (s.reg8 r)) ∧
    exec (.ldMN n) s = .next (store s s.hl n) ∧
    exec .ldBcA s = .next (store s s.bc s.a) ∧
    exec .ldDeA s = .next (store s s.de s.a) ∧
    exec (.ldAbsA nn) s = .next (store s nn s.a) ∧
    exec (.ldAbsHl nn) s = .next (store (store s nn s.l) (nn + 1) s.h)

/-- PUSH and POP of a pair and of an index register, and `EX (SP),XY` (R215, R216, R373 to R375): the high byte goes to SP-1
first, the low byte to SP-2; the low byte comes from SP first, the high byte from SP+1. -/
def Obligations.StackResults : Prop :=
  ∀ (s : State) (p : RPair2) (xy : Idx),
    let read := fun (u : State) (x : Word) =>
      ({ u with answers := u.answers.tail, bus := .read x (u.peek x) :: u.bus } : State)
    let store := fun (u : State) (x : Word) (v : Byte) =>
      ({ u with mem := Memory.write u.mem x.toNat v, bus := .write x v :: u.bus } : State)
    let pushed := fun (v : Word) =>
      ({ store (store s (s.sp - 1) (v.extractLsb' 8 8)) (s.sp - 2) (v.extractLsb' 0 8) with sp := s.sp - 2 } : State)
    let seen := read (read s s.sp) (s.sp + 1)
    let top : Word := (read s s.sp).peek (s.sp + 1) ++ s.peek s.sp
    exec (.push p) s = .next (pushed (s.rp2 p)) ∧
    exec (.pop p) s = .next (({ seen with sp := s.sp + 2 } : State).setRp2 p top) ∧
    exec (.pushXy xy) s = .next (pushed (s.xy xy)) ∧
    exec (.popXy xy) s = .next (({ seen with sp := s.sp + 2 } : State).setXy xy top) ∧
    exec (.exSpXy xy) s = .next ((store (store seen (s.sp + 1) (s.xyH xy)) s.sp (s.xyL xy)).setXy xy top)

/-- Round trips. Where the host answers from a canonical memory, as plain RAM (the model's fields, log 1; R61 leaves the answer
to the host), a store is read back and leaves every other address alone, and what any pair pushes, any pair pops, for every SP,
and SP comes back (R216). Each exchange undoes itself, every flag bit with it (R218). -/
def Obligations.RoundTripsRestore : Prop :=
  ∀ s : State,
    (s.mem.wf = true → s.answers = [] →
      (∀ (x y : Word) (v : Byte), (s.writeByte x v).peek y = if y = x then v else s.peek y) ∧
      (∀ p q : RPair2,
        ∃ t u, exec (.push p) s = .next t ∧ exec (.pop q) t = .next u ∧ u.rp2 q = s.rp2 p ∧ u.sp = s.sp)) ∧
    (∃ t, exec .exAf s = .next t ∧ exec .exAf t = .next s) ∧
    (∃ t, exec .exx s = .next t ∧ exec .exx t = .next s) ∧
    (∃ t, exec .exDeHl s = .next t ∧ exec .exDeHl t = .next s)

/-- `EX DE,HL`, `EX AF,AF'`, `EXX`, `EX (SP),HL` (R217 to R220). -/
def Obligations.ExchangeResults : Prop :=
  ∀ s : State,
    let read := fun (u : State) (x : Word) =>
      ({ u with answers := u.answers.tail, bus := .read x (u.peek x) :: u.bus } : State)
    let store := fun (u : State) (x : Word) (v : Byte) =>
      ({ u with mem := Memory.write u.mem x.toNat v, bus := .write x v :: u.bus } : State)
    let seen := read (read s s.sp) (s.sp + 1)
    exec .exDeHl s = .next { s with d := s.h, e := s.l, h := s.d, l := s.e } ∧
    exec .exAf s = .next { s with a := s.a', f := Flags.unpack s.f', a' := s.a, f' := s.f.pack } ∧
    exec .exx s =
      .next
        { s with
          b := s.b', c := s.c', d := s.d', e := s.e', h := s.h', l := s.l'
          b' := s.b, c' := s.c, d' := s.d, e' := s.e, h' := s.h, l' := s.l } ∧
    exec .exSpHl s =
      .next { store (store seen (s.sp + 1) s.h) s.sp s.l with l := s.peek s.sp, h := (read s s.sp).peek (s.sp + 1) }

/-! ### 40_alu_flags.md and 42_base_arith.md -/

/-- `addByte` in exact arithmetic (R153): the result mod 256, the carry out of bit 7, the carry out of bit 3, and fPV, the two
top carries' difference, is signed overflow. -/
def Obligations.AddByteArithmetic : Prop :=
  ∀ (a b : Byte) (cin : Bool),
    (addByte a b cin).1.toNat = (a.toNat + b.toNat + cin.toNat) % 256 ∧
    (addByte a b cin).2 =
      { s := (addByte a b cin).1.msb
        z := decide ((a.toNat + b.toNat + cin.toNat) % 256 = 0)
        y := (addByte a b cin).1.getLsbD 5
        h := decide (16 ≤ a.toNat % 16 + b.toNat % 16 + cin.toNat)
        x := (addByte a b cin).1.getLsbD 3
        pv := decide (a.toInt + b.toInt + cin.toNat < -128 ∨ 127 < a.toInt + b.toInt + cin.toNat)
        n := false
        c := decide (256 ≤ a.toNat + b.toNat + cin.toNat) }

/-- `subByte` in the closed form of R154, and `compare`, whose fY and fX come from the operand (R155). -/
def Obligations.SubByteClosedForm : Prop :=
  ∀ (a b : Byte) (cin : Bool),
    (subByte a b cin).1 = a - b - BitVec.ofNat 8 cin.toNat ∧
    (subByte a b cin).2 =
      { s := (subByte a b cin).1.getLsbD 7
        z := decide ((subByte a b cin).1 = 0)
        y := (subByte a b cin).1.getLsbD 5
        h := decide (a.toNat % 16 < b.toNat % 16 + cin.toNat)
        x := (subByte a b cin).1.getLsbD 3
        pv := ((a ^^^ b) &&& (a ^^^ (subByte a b cin).1)).getLsbD 7
        n := true
        c := decide (a.toNat < b.toNat + cin.toNat) } ∧
    compareByte a b = { (subByte a b false).2 with y := b.getLsbD 5, x := b.getLsbD 3 }

/-- Parity and the flags of the logic operations: fPV is 1 exactly when the result has an even number of 1 bits (R151, R152,
R158). -/
def Obligations.LogicFlagsRule : Prop :=
  (∀ v : Byte, parityEven v = decide (((List.range 8).countP fun k => v.getLsbD k) % 2 = 0)) ∧
  (∀ (f : Flags) (a v : Byte),
    let fl := fun (res : Byte) (half : Bool) =>
      ({ s := res.getLsbD 7, z := decide (res = 0), y := res.getLsbD 5, h := half, x := res.getLsbD 3, pv := parityEven res
         n := false, c := false } : Flags)
    aluByte .and f a v = (a &&& v, fl (a &&& v) true) ∧
    aluByte .xor f a v = (a ^^^ v, fl (a ^^^ v) false) ∧
    aluByte .or f a v = (a ||| v, fl (a ||| v) false))

/-- The eight ALU operations, in every operand form: register, (HL) and immediate (R250 to R258), and the index halves and
(XY+d) (R369). The destination is A, and CP keeps A. -/
def Obligations.AluResults : Prop :=
  ∀ (s : State) (r : Reg8) (n d : Byte) (xy : Idx) (op : AluOp),
    let put := fun (u : State) (p : Byte × Flags) => ({ u with a := p.1, f := p.2 } : State)
    let seen := fun (u : State) (x : Word) =>
      ({ u with answers := u.answers.tail, bus := .read x (u.peek x) :: u.bus } : State)
    let m := s.peek s.hl
    let alu := fun (op : AluOp) (v : Byte) =>
      match op with
      | .add => addByte s.a v false
      | .adc => addByte s.a v s.f.c
      | .sub => subByte s.a v false
      | .sbc => subByte s.a v s.f.c
      | .and => (s.a &&& v, logicFlags (s.a &&& v) true)
      | .xor => (s.a ^^^ v, logicFlags (s.a ^^^ v) false)
      | .or => (s.a ||| v, logicFlags (s.a ||| v) false)
      | .cp => (s.a, compareByte s.a v)
    exec (.addR r) s = .next (put s (alu .add (s.reg8 r))) ∧ exec .addM s = .next (put (seen s s.hl) (alu .add m)) ∧
    exec (.addN n) s = .next (put s (alu .add n)) ∧
    exec (.adcR r) s = .next (put s (alu .adc (s.reg8 r))) ∧ exec .adcM s = .next (put (seen s s.hl) (alu .adc m)) ∧
    exec (.adcN n) s = .next (put s (alu .adc n)) ∧
    exec (.subR r) s = .next (put s (alu .sub (s.reg8 r))) ∧ exec .subM s = .next (put (seen s s.hl) (alu .sub m)) ∧
    exec (.subN n) s = .next (put s (alu .sub n)) ∧
    exec (.sbcR r) s = .next (put s (alu .sbc (s.reg8 r))) ∧ exec .sbcM s = .next (put (seen s s.hl) (alu .sbc m)) ∧
    exec (.sbcN n) s = .next (put s (alu .sbc n)) ∧
    exec (.andR r) s = .next (put s (alu .and (s.reg8 r))) ∧ exec .andM s = .next (put (seen s s.hl) (alu .and m)) ∧
    exec (.andN n) s = .next (put s (alu .and n)) ∧
    exec (.xorR r) s = .next (put s (alu .xor (s.reg8 r))) ∧ exec .xorM s = .next (put (seen s s.hl) (alu .xor m)) ∧
    exec (.xorN n) s = .next (put s (alu .xor n)) ∧
    exec (.orR r) s = .next (put s (alu .or (s.reg8 r))) ∧ exec .orM s = .next (put (seen s s.hl) (alu .or m)) ∧
    exec (.orN n) s = .next (put s (alu .or n)) ∧
    exec (.cpR r) s = .next (put s (alu .cp (s.reg8 r))) ∧ exec .cpM s = .next (put (seen s s.hl) (alu .cp m)) ∧
    exec (.cpN n) s = .next (put s (alu .cp n)) ∧
    exec (.aluXyH xy op) s = .next (put s (alu op (s.xyH xy))) ∧
    exec (.aluXyL xy op) s = .next (put s (alu op (s.xyL xy))) ∧
    exec (.aluXyD xy op d) s =
      .next
        (put (seen { s with addrReg := s.xy xy + d.signExtend 16 } (s.xy xy + d.signExtend 16))
          (alu op (s.peek (s.xy xy + d.signExtend 16))))

/-- INC and DEC of a register, of (HL), of an index half and of (XY+d): fPV is set on 7F to 80 and on 80 to 7F, fC is kept
(R156, R157, R259 to R262, R360, R361, R363, R364, R366, R367). -/
def Obligations.IncDecByteResults : Prop :=
  ∀ (s : State) (r : Reg8) (xy : Idx) (d : Byte),
    let up := fun (v : Byte) =>
      ({ s := (v + 1).getLsbD 7, z := decide (v + 1 = 0), y := (v + 1).getLsbD 5, h := decide (v.toNat % 16 = 15)
         x := (v + 1).getLsbD 3, pv := decide (v = 0x7F), n := false, c := s.f.c } : Flags)
    let down := fun (v : Byte) =>
      ({ s := (v - 1).getLsbD 7, z := decide (v - 1 = 0), y := (v - 1).getLsbD 5, h := decide (v.toNat % 16 = 0)
         x := (v - 1).getLsbD 3, pv := decide (v = 0x80), n := true, c := s.f.c } : Flags)
    let rmw := fun (u : State) (x : Word) (v : Byte) (fl : Flags) =>
      ({ u with
         mem := Memory.write u.mem x.toNat v
         answers := u.answers.tail
         bus := .write x v :: .read x (u.peek x) :: u.bus
         f := fl } : State)
    let ea := s.xy xy + d.signExtend 16
    exec (.incR r) s = .next ({ s.setReg8 r (s.reg8 r + 1) with f := up (s.reg8 r) } : State) ∧
    exec (.decR r) s = .next ({ s.setReg8 r (s.reg8 r - 1) with f := down (s.reg8 r) } : State) ∧
    exec .incM s = .next (rmw s s.hl (s.peek s.hl + 1) (up (s.peek s.hl))) ∧
    exec .decM s = .next (rmw s s.hl (s.peek s.hl - 1) (down (s.peek s.hl))) ∧
    exec (.incXyH xy) s = .next ({ s.setXyH xy (s.xyH xy + 1) with f := up (s.xyH xy) } : State) ∧
    exec (.decXyH xy) s = .next ({ s.setXyH xy (s.xyH xy - 1) with f := down (s.xyH xy) } : State) ∧
    exec (.incXyL xy) s = .next ({ s.setXyL xy (s.xyL xy + 1) with f := up (s.xyL xy) } : State) ∧
    exec (.decXyL xy) s = .next ({ s.setXyL xy (s.xyL xy - 1) with f := down (s.xyL xy) } : State) ∧
    exec (.incXyD xy d) s = .next (rmw { s with addrReg := ea } ea (s.peek ea + 1) (up (s.peek ea))) ∧
    exec (.decXyD xy d) s = .next (rmw { s with addrReg := ea } ea (s.peek ea - 1) (down (s.peek ea)))

/-- `ADD HL,rp` and `ADD XY,rp` on 16 bits: fH is the carry out of bit 11, fC that out of bit 15, fY and fX come from the high
byte, fS, fZ and fPV are kept, and addr_reg is the old first operand plus 1 (R160, R265, R359). -/
def Obligations.AddWordResults : Prop :=
  ∀ (s : State) (p : RPair) (xy : Idx) (q : XPair),
    let fl := fun (a b : Word) =>
      ({ s.f with
         y := (a + b).getLsbD 13
         h := decide (4096 ≤ a.toNat % 4096 + b.toNat % 4096)
         x := (a + b).getLsbD 11
         n := false
         c := decide (65536 ≤ a.toNat + b.toNat) } : Flags)
    exec (.addHlRp p) s = .next ({ s.setHl (s.hl + s.rp p) with f := fl s.hl (s.rp p), addrReg := s.hl + 1 } : State) ∧
    exec (.addXyRp xy q) s =
      .next ({ s.setXy xy (s.xy xy + s.xpair xy q) with f := fl (s.xy xy) (s.xpair xy q), addrReg := s.xy xy + 1 } : State)

/-- `ADC HL,rp` and `SBC HL,rp` on 16 bits: fS and fZ of the whole result, fPV the signed overflow, fH and fC the carry or borrow
at bits 12 and 16, addr_reg the old HL plus 1 (R434, R435). -/
def Obligations.AdcSbcWordResults : Prop :=
  ∀ (s : State) (p : RPair),
    let cin := s.f.c.toNat
    let sum := s.hl + s.rp p + BitVec.ofNat 16 cin
    let dif := s.hl - s.rp p - BitVec.ofNat 16 cin
    let up := s.hl.toInt + (s.rp p).toInt + cin
    let down := s.hl.toInt - (s.rp p).toInt - cin
    exec (.adcHlRp p) s =
      .next
        ({ s.setHl sum with
           addrReg := s.hl + 1
           f :=
             { s := sum.getLsbD 15, z := decide (sum = 0), y := sum.getLsbD 13
               h := decide (4096 ≤ s.hl.toNat % 4096 + (s.rp p).toNat % 4096 + cin), x := sum.getLsbD 11
               pv := decide (up < -32768 ∨ 32767 < up), n := false
               c := decide (65536 ≤ s.hl.toNat + (s.rp p).toNat + cin) } } : State) ∧
    exec (.sbcHlRp p) s =
      .next
        ({ s.setHl dif with
           addrReg := s.hl + 1
           f :=
             { s := dif.getLsbD 15, z := decide (dif = 0), y := dif.getLsbD 13
               h := decide (s.hl.toNat % 4096 < (s.rp p).toNat % 4096 + cin), x := dif.getLsbD 11
               pv := decide (down < -32768 ∨ 32767 < down), n := true
               c := decide (s.hl.toNat < (s.rp p).toNat + cin) } } : State)

/-- DAA (R163, R266): the correction from A, fH and fC before it, added or subtracted by fN; fPV is parity and fN is kept. NEG (R438): A
becomes 0 - A; fC is set unless A was 0, fPV only for 80H, fH unless the low nibble was 0. -/
def Obligations.DaaAndNegResults : Prop :=
  ∀ s : State,
    let six := if s.f.h = true ∨ 9 < s.a.toNat % 16 then 6 else 0
    let sixty := if s.f.c = true ∨ 0x99 < s.a.toNat then 0x60 else 0
    let corr : Byte := BitVec.ofNat 8 (sixty + six)
    let g := if s.f.n then subByte s.a corr false else addByte s.a corr false
    exec .daa s =
      .next
        { s with
          a := g.1
          f :=
            { s := g.1.getLsbD 7, z := decide (g.1 = 0), y := g.1.getLsbD 5, h := g.2.h, x := g.1.getLsbD 3
              pv := parityEven g.1, n := s.f.n, c := decide (s.f.c = true ∨ 0x99 < s.a.toNat) } } ∧
    exec .neg s =
      .next
        { s with
          a := 0 - s.a
          f :=
            { s := (0 - s.a).getLsbD 7, z := decide (s.a = 0), y := (0 - s.a).getLsbD 5, h := decide (s.a.toNat % 16 ≠ 0)
              x := (0 - s.a).getLsbD 3, pv := decide (s.a = 0x80), n := true, c := decide (s.a ≠ 0) } }

/-- The BCD round trip: ADD A of two packed decimals and then DAA gives the packed sum mod 100 and the decimal carry; SUB and
then DAA gives the packed difference mod 100 and the decimal borrow. -/
def Obligations.BcdRoundTrip : Prop :=
  ∀ (s : State) (x y : Nat), x < 100 → y < 100 →
    let packed := fun (k : Nat) => BitVec.ofNat 8 (k / 10 * 16 + k % 10)
    (∃ t u, exec (.addN (packed y)) { s with a := packed x } = .next t ∧ exec .daa t = .next u ∧
      u.a = packed ((x + y) % 100) ∧ u.f.c = decide (100 ≤ x + y)) ∧
    (∃ t u, exec (.subN (packed y)) { s with a := packed x } = .next t ∧ exec .daa t = .next u ∧
      u.a = packed ((x + 100 - y) % 100) ∧ u.f.c = decide (x < y))

/-- CPL, SCF, CCF and the four accumulator rotates: fS, fZ and fPV are kept (R267 to R273). -/
def Obligations.AccumulatorOperationResults : Prop :=
  ∀ s : State,
    let rot := fun (v : Byte) (c : Bool) =>
      ({ s with a := v, f := { s.f with y := v.getLsbD 5, h := false, x := v.getLsbD 3, n := false, c := c } } : State)
    let bit := fun (c : Bool) => BitVec.ofNat 8 c.toNat
    exec .cpl s =
      .next { s with a := ~~~s.a, f := { s.f with y := !s.a.getLsbD 5, h := true, x := !s.a.getLsbD 3, n := true } } ∧
    exec .scf s =
      .next { s with f := { s.f with y := s.a.getLsbD 5, h := false, x := s.a.getLsbD 3, n := false, c := true } } ∧
    exec .ccf s =
      .next { s with f := { s.f with y := s.a.getLsbD 5, h := s.f.c, x := s.a.getLsbD 3, n := false, c := !s.f.c } } ∧
    exec .rlca s = .next (rot ((s.a <<< 1) ||| bit (s.a.getLsbD 7)) (s.a.getLsbD 7)) ∧
    exec .rrca s = .next (rot ((s.a >>> 1) ||| (bit (s.a.getLsbD 0) <<< 7)) (s.a.getLsbD 0)) ∧
    exec .rla s = .next (rot ((s.a <<< 1) ||| bit s.f.c) (s.a.getLsbD 7)) ∧
    exec .rra s = .next (rot ((s.a >>> 1) ||| (bit s.f.c <<< 7)) (s.a.getLsbD 0))

/-! ### 43_base_control.md -/

/-- NOP, the jumps and the relative jumps, with their conditions (R300 to R305, R311, R320, R376) and the surcharge of a taken
conditional relative jump (R616). PC is already past the instruction. -/
def Obligations.JumpResults : Prop :=
  ∀ (s : State) (nn : Word) (e : Byte) (cc : Cond) (xy : Idx),
    let taken := fun (cc : Cond) =>
      match cc with
      | .nz => !s.f.z | .z => s.f.z | .nc => !s.f.c | .c => s.f.c
      | .po => !s.f.pv | .pe => s.f.pv | .p => !s.f.s | .m => s.f.s
    exec .nop s = .next s ∧
    exec (.jp nn) s = .next { s with pc := nn } ∧
    exec (.jpCc cc nn) s = .next (if taken cc then { s with pc := nn } else s) ∧
    exec (.jr e) s = .next { s with pc := s.pc + e.signExtend 16 } ∧
    exec (.jrCc cc e) s =
      .next (if taken cc then { s with pc := s.pc + e.signExtend 16, cycles := s.params.count (s.cycles + 5) } else s) ∧
    exec (.djnz e) s =
      .next
        (if s.b = 1 then { s with b := 0 }
        else { s with b := s.b - 1, pc := s.pc + e.signExtend 16, cycles := s.params.count (s.cycles + 5) }) ∧
    exec .jpHl s = .next { s with pc := s.hl } ∧
    exec (.jpXy xy) s = .next { s with pc := s.xy xy }

/-- CALL, CALL cc, RET, RET cc, RST and RETI: the pushed PC is the one past the instruction; a taken condition costs 7 or 6
more (R306 to R310, R440, R616). -/
def Obligations.CallReturnResults : Prop :=
  ∀ (s : State) (nn : Word) (cc : Cond) (y : Fin 8),
    let read := fun (u : State) (x : Word) =>
      ({ u with answers := u.answers.tail, bus := .read x (u.peek x) :: u.bus } : State)
    let store := fun (u : State) (x : Word) (v : Byte) =>
      ({ u with mem := Memory.write u.mem x.toNat v, bus := .write x v :: u.bus } : State)
    let pushed :=
      ({ store (store s (s.sp - 1) (s.pc.extractLsb' 8 8)) (s.sp - 2) (s.pc.extractLsb' 0 8) with sp := s.sp - 2 } : State)
    let back :=
      ({ read (read s s.sp) (s.sp + 1) with
         sp := s.sp + 2
         pc := (read s s.sp).peek (s.sp + 1) ++ s.peek s.sp } : State)
    exec (.call nn) s = .next { pushed with pc := nn } ∧
    exec (.callCc cc nn) s =
      .next (if s.f.holds cc then { pushed with pc := nn, cycles := s.params.count (s.cycles + 7) } else s) ∧
    exec .ret s = .next back ∧
    exec (.retCc cc) s = .next (if s.f.holds cc then { back with cycles := s.params.count (s.cycles + 6) } else s) ∧
    exec (.rst (BitVec.ofNat 8 (8 * y))) s = .next { pushed with pc := BitVec.ofNat 16 (8 * y) } ∧
    exec .reti s = .next back

/-- What a read of memory or of a port answers, and what it leaves: any value at all (R61, U13). A read of memory takes the host's
next ready answer, or, where that leaves it to memory or none is ready, the byte memory holds (log 1). A port read takes the
host's oldest ready answer, else the next free value (log 4). The lists and the counter are the model's. -/
def Obligations.BusReadAnswers : Prop :=
  ∀ (s : State) (x : Word) (port v : Byte) (more : List (Option Byte)) (rest : List Byte),
    (s.answers = some v :: more → s.peek x = v ∧ s.sawRead x = { s with answers := more, bus := .read x v :: s.bus }) ∧
    (s.answers = none :: more →
      s.peek x = Memory.read s.mem x.toNat ∧
      s.sawRead x = { s with answers := more, bus := .read x (Memory.read s.mem x.toNat) :: s.bus }) ∧
    (s.answers = [] →
      s.peek x = Memory.read s.mem x.toNat ∧ s.sawRead x = { s with bus := .read x (Memory.read s.mem x.toNat) :: s.bus }) ∧
    (s.inputs = v :: rest →
      s.portValue port = v ∧ s.sawPortIn port = { s with inputs := rest, bus := .portIn port v :: s.bus }) ∧
    (s.inputs = [] →
      s.portValue port = Config.portAnswer s.portReads port ∧
      s.sawPortIn port =
        { s with portReads := s.portReads + 1, bus := .portIn port (Config.portAnswer s.portReads port) :: s.bus })

/-- The port instructions: `OUT (n),A`, `IN A,(n)` (no flag), `OUT (C),r` and `IN r,(C)` (fC kept) (R312, R313, R432, R433). -/
def Obligations.PortResults : Prop :=
  ∀ (s : State) (n : Byte) (r : Reg8),
    let v := s.portValue s.c
    exec (.outNA n) s = .next { s with bus := .portOut n s.a :: s.bus } ∧
    exec (.inAN n) s = .next ({ s.sawPortIn n with a := s.portValue n } : State) ∧
    exec (.outCR r) s = .next { s with bus := .portOut s.c (s.reg8 r) :: s.bus } ∧
    exec (.inRC r) s =
      .next
        ({ (s.sawPortIn s.c).setReg8 r v with
           f :=
             { s := v.getLsbD 7, z := decide (v = 0), y := v.getLsbD 5, h := false, x := v.getLsbD 3, pv := parityEven v
               n := false, c := s.f.c } } : State)

/-- HALT, DI and EI: EI loads the delay with `EI_DELAY` and leaves both flip-flops, DI clears them and a running delay (R314 to R316). An
unknown extended opcode emits its diagnostic and does nothing else (R466). -/
def Obligations.MachineControlResults : Prop :=
  ∀ (s : State) (op : Byte),
    exec .halt s = .next { s with halted := true } ∧
    exec .di s = .next { s with iff1 := false, iff2 := false, eiDelay := 0 } ∧
    exec .ei s = .next { s with eiDelay := s.params.eiDelay } ∧
    exec (.unknownEd op) s = .next { s with diags := .unknownExtendedOpcode op :: s.diags }

/-- The prefix rows: after the prefix bytes the instruction that the bytes at PC complete has its effect, in the same step, with
its whole base cost (R317, R318, R319, R378). After DD or FD the bytes must end; else the fetch goes on for ever (R353). The form
of these rows is the model's (log 6, log 10). -/
def Obligations.PrefixRowsGoOn : Prop :=
  ∀ (s : State) (xy : Idx),
    let cost := baseCost s.params.cycleTable
    let displaced := ddcbEntry xy (s.peek s.pc) ((s.sawRead s.pc).peek (s.pc + 1))
    (∃ t, exec (cbEntry (s.peek s.pc)) (s.fetch 1) = .next t ∧
      exec .prefixCB s = .next (t.tick (cost (cbEntry (s.peek s.pc))))) ∧
    (∃ i rest t, decode s.params.edIoC (0xED :: s.bytesAt 3 s.pc) = .ok (i, rest) ∧
      exec i (s.fetch (i.size - 1)) = .next t ∧ exec .prefixED s = .next (t.tick (cost i))) ∧
    (s.prefixesEnd →
      ∃ n i rest t, decode s.params.edIoC (xy.prefixByte :: s.bytesAt n s.pc) = .ok (i, rest) ∧
        exec i (s.fetch (i.size - 1)) = .next t ∧ exec (.prefixXY xy) s = .next (t.tick (cost i))) ∧
    (¬ s.prefixesEnd → exec (.prefixXY xy) s = .next { s.fetchByte with hung := true }) ∧
    (∃ t, exec displaced (s.fetch 2) = .next t ∧ exec (.prefixXyCB xy) s = .next (t.tick (cost displaced)))

/-! ### 44_index.md -/

/-- The fallback: an ignored index prefix leaves the instruction after it its effect, on the real HL, and costs 4 more (R352,
R614), the entry of `CYCLES` for it. -/
def Obligations.FallbackIsTheInstruction : Prop :=
  specCycles.ignoredPrefix = 4 ∧
  ∀ (io : Bool) (s : State) (xy : Idx) (i : Instr),
    i.complete io →
      ∃ t, exec i s = .next t ∧ exec (.fallback xy i) s = .next t ∧
        ∀ c, baseCost c (.fallback xy i) = c.ignoredPrefix + baseCost c i

/-- The 16-bit loads of an index register and of a pair: `LD XY,nn`, `LD (nn),XY`, `LD XY,(nn)`, `LD SP,XY`, `LD (nn),rp`,
`LD rp,(nn)` (R354 to R356, R377, R436, R437). -/
def Obligations.WordLoadResults : Prop :=
  ∀ (s : State) (xy : Idx) (nn : Word) (p : RPair),
    let read := fun (u : State) (x : Word) =>
      ({ u with answers := u.answers.tail, bus := .read x (u.peek x) :: u.bus } : State)
    let seen := read (read s nn) (nn + 1)
    let v : Word := (read s nn).peek (nn + 1) ++ s.peek nn
    let stored := fun (w : Word) =>
      ({ s with
         mem := Memory.write (Memory.write s.mem nn.toNat (w.extractLsb' 0 8)) (nn + 1).toNat (w.extractLsb' 8 8)
         bus := .write (nn + 1) (w.extractLsb' 8 8) :: .write nn (w.extractLsb' 0 8) :: s.bus } : State)
    exec (.ldXyImm xy nn) s = .next (s.setXy xy nn) ∧
    exec (.ldAbsXy xy nn) s = .next (stored (s.xy xy)) ∧
    exec (.ldXyAbs xy nn) s = .next (seen.setXy xy v) ∧
    exec (.ldSpXy xy) s = .next { s with sp := s.xy xy } ∧
    exec (.ldAbsRp nn p) s = .next (stored (s.rp p)) ∧
    exec (.ldRpAbs p nn) s = .next (seen.setRp p v)

/-- The 8-bit loads of the index table: a half, and the byte at XY plus the signed displacement, whose address goes into
addr_reg; H and L are the real ones beside (XY+d) (R351, R362, R365, R368, R370, R371, R372). -/
def Obligations.IndexByteLoadResults : Prop :=
  ∀ (s : State) (xy : Idx) (n d : Byte) (r : Reg8) (dst src : XReg),
    let ea := s.xy xy + d.signExtend 16
    let stored := fun (v : Byte) =>
      ({ s with addrReg := ea, mem := Memory.write s.mem ea.toNat v, bus := .write ea v :: s.bus } : State)
    exec (.ldXyHN xy n) s = .next (s.setXyH xy n) ∧
    exec (.ldXyLN xy n) s = .next (s.setXyL xy n) ∧
    exec (.ldXyDN xy d n) s = .next (stored n) ∧
    exec (.ldRXyD xy r d) s =
      .next
        (({ s with addrReg := ea, answers := s.answers.tail, bus := .read ea (s.peek ea) :: s.bus } : State).setReg8 r
          (s.peek ea)) ∧
    exec (.ldXyDR xy d r) s = .next (stored (s.reg8 r)) ∧
    exec (.ldHalf xy dst src) s =
      .next
        (let v :=
          match src with
          | .b => s.b | .c => s.c | .d => s.d | .e => s.e | .a => s.a
          | .xyh => s.xyH xy | .xyl => s.xyL xy
        match dst with
        | .b => { s with b := v } | .c => { s with c := v } | .d => { s with d := v } | .e => { s with e := v }
        | .a => { s with a := v }
        | .xyh => s.setXyH xy v | .xyl => s.setXyL xy v)

/-! ### 45_bit_ops.md -/

/-- The eight rotates and shifts on their results and carries (R159): the two without carry rotate the byte, SLA doubles it, SRA
halves it as a signed number, SRL as an unsigned one, SLL doubles it and sets bit 0. -/
def Obligations.RotateShiftArithmetic : Prop :=
  ∀ (k : Rot) (v : Byte) (cin : Bool),
    rotResult .rlc v cin = v.rotateLeft 1 ∧ rotResult .rrc v cin = v.rotateRight 1 ∧
    (rotResult .rl v cin).toNat = (2 * v.toNat + cin.toNat) % 256 ∧
    (rotResult .rr v cin).toNat = v.toNat / 2 + 128 * cin.toNat ∧
    (rotResult .sla v cin).toNat = 2 * v.toNat % 256 ∧ (rotResult .sra v cin).toInt = v.toInt / 2 ∧
    (rotResult .sll v cin).toNat = (2 * v.toNat + 1) % 256 ∧ (rotResult .srl v cin).toNat = v.toNat / 2 ∧
    rotCarry k v =
      (match k with
      | .rlc | .rl | .sla | .sll => decide (128 ≤ v.toNat)
      | .rrc | .rr | .sra | .srl => decide (v.toNat % 2 = 1))

/-- The CB rotates and shifts of a register and of (HL) and those of (XY+d), whatever the z field: fS, fZ, fY and fX of the
result, fH and fN 0, fPV its parity, fC the bit moved out; a memory byte is read once and written once, and no register
is written beside it (R401 to R408, R413). -/
def Obligations.RotateShiftResults : Prop :=
  ∀ (s : State) (r : Reg8) (xy : Idx) (d : Byte) (z : Fin 8),
    let fl := fun (k : Rot) (v : Byte) =>
      ({ s := (rotResult k v s.f.c).getLsbD 7, z := decide (rotResult k v s.f.c = 0), y := (rotResult k v s.f.c).getLsbD 5
         h := false, x := (rotResult k v s.f.c).getLsbD 3, pv := parityEven (rotResult k v s.f.c), n := false
         c := rotCarry k v } : Flags)
    let reg := fun (k : Rot) => ({ s.setReg8 r (rotResult k (s.reg8 r) s.f.c) with f := fl k (s.reg8 r) } : State)
    let mem := fun (u : State) (x : Word) (k : Rot) =>
      ({ u with
         mem := Memory.write u.mem x.toNat (rotResult k (u.peek x) s.f.c)
         answers := u.answers.tail
         bus := .write x (rotResult k (u.peek x) s.f.c) :: .read x (u.peek x) :: u.bus
         f := fl k (u.peek x) } : State)
    let disp := mem { s with addrReg := s.xy xy + d.signExtend 16 } (s.xy xy + d.signExtend 16)
    exec (.rlcR r) s = .next (reg .rlc) ∧ exec .rlcM s = .next (mem s s.hl .rlc) ∧
    exec (.rlcXyD xy d z) s = .next (disp .rlc) ∧
    exec (.rrcR r) s = .next (reg .rrc) ∧ exec .rrcM s = .next (mem s s.hl .rrc) ∧
    exec (.rrcXyD xy d z) s = .next (disp .rrc) ∧
    exec (.rlR r) s = .next (reg .rl) ∧ exec .rlM s = .next (mem s s.hl .rl) ∧
    exec (.rlXyD xy d z) s = .next (disp .rl) ∧
    exec (.rrR r) s = .next (reg .rr) ∧ exec .rrM s = .next (mem s s.hl .rr) ∧
    exec (.rrXyD xy d z) s = .next (disp .rr) ∧
    exec (.slaR r) s = .next (reg .sla) ∧ exec .slaM s = .next (mem s s.hl .sla) ∧
    exec (.slaXyD xy d z) s = .next (disp .sla) ∧
    exec (.sraR r) s = .next (reg .sra) ∧ exec .sraM s = .next (mem s s.hl .sra) ∧
    exec (.sraXyD xy d z) s = .next (disp .sra) ∧
    exec (.sllR r) s = .next (reg .sll) ∧ exec .sllM s = .next (mem s s.hl .sll) ∧
    exec (.sllXyD xy d z) s = .next (disp .sll) ∧
    exec (.srlR r) s = .next (reg .srl) ∧ exec .srlM s = .next (mem s s.hl .srl) ∧
    exec (.srlXyD xy d z) s = .next (disp .srl)

/-- BIT: fZ and fPV are the bit's complement, fS the bit itself where it is bit 7, fH is 1, fC is kept; fY and fX come from the
register, or for a memory operand from the high byte of addr_reg, which (XY+d) has just written (R409, R414). -/
def Obligations.BitTestResults : Prop :=
  ∀ (s : State) (b z : Fin 8) (r : Reg8) (xy : Idx) (d : Byte),
    let fl := fun (v src : Byte) =>
      ({ s := decide (b = 7) && v.getLsbD 7, z := !v.getLsbD b, y := src.getLsbD 5, h := true, x := src.getLsbD 3
         pv := !v.getLsbD b, n := false, c := s.f.c } : Flags)
    let ea := s.xy xy + d.signExtend 16
    exec (.bitR b r) s = .next { s with f := fl (s.reg8 r) (s.reg8 r) } ∧
    exec (.bitM b) s =
      .next
        { s with
          f := fl (s.peek s.hl) (s.addrReg.extractLsb' 8 8)
          answers := s.answers.tail
          bus := .read s.hl (s.peek s.hl) :: s.bus } ∧
    exec (.bitXyD xy d b z) s =
      .next
        { s with
          addrReg := ea
          f := fl (s.peek ea) (ea.extractLsb' 8 8)
          answers := s.answers.tail
          bus := .read ea (s.peek ea) :: s.bus }

/-- RES and SET of a register, of (HL) and of (XY+d), whatever the z field: one bit changes, no flag, and a memory byte is
written even where it does not change (R410, R411, R415, R416). -/
def Obligations.BitResetSetResults : Prop :=
  ∀ (s : State) (b z : Fin 8) (r : Reg8) (xy : Idx) (d : Byte),
    let off := fun (v : Byte) => v &&& ~~~((1 : Byte) <<< b.val)
    let on := fun (v : Byte) => v ||| ((1 : Byte) <<< b.val)
    let rmw := fun (u : State) (x : Word) (g : Byte → Byte) =>
      ({ u with
         mem := Memory.write u.mem x.toNat (g (u.peek x))
         answers := u.answers.tail
         bus := .write x (g (u.peek x)) :: .read x (u.peek x) :: u.bus } : State)
    let ea := s.xy xy + d.signExtend 16
    exec (.resR b r) s = .next (s.setReg8 r (off (s.reg8 r))) ∧
    exec (.resM b) s = .next (rmw s s.hl off) ∧
    exec (.resXyD xy d b z) s = .next (rmw { s with addrReg := ea } ea off) ∧
    exec (.setR b r) s = .next (s.setReg8 r (on (s.reg8 r))) ∧
    exec (.setM b) s = .next (rmw s s.hl on) ∧
    exec (.setXyD xy d b z) s = .next (rmw { s with addrReg := ea } ea on)

/-! ### 46_extended.md -/

/-- RETN, the interrupt modes, and the loads of I and R: fPV from IFF2, fC kept (R439, R441 to R447). RLD and RRD: three nibbles
rotate through the low nibble of A and the byte at HL; fC is kept (R448, R449). -/
def Obligations.ExtendedControlResults : Prop :=
  ∀ s : State,
    let read := fun (u : State) (x : Word) =>
      ({ u with answers := u.answers.tail, bus := .read x (u.peek x) :: u.bus } : State)
    let fl := fun (v : Byte) =>
      ({ s := v.getLsbD 7, z := decide (v = 0), y := v.getLsbD 5, h := false, x := v.getLsbD 3, pv := s.iff2, n := false
         c := s.f.c } : Flags)
    let v := s.peek s.hl
    let out := fun (m a : Byte) =>
      ({ s with
         a := a
         mem := Memory.write s.mem s.hl.toNat m
         answers := s.answers.tail
         bus := .write s.hl m :: .read s.hl v :: s.bus
         f :=
           { s := a.getLsbD 7, z := decide (a = 0), y := a.getLsbD 5, h := false, x := a.getLsbD 3, pv := parityEven a
             n := false, c := s.f.c } } : State)
    exec .retn s =
      .next
        { read (read s s.sp) (s.sp + 1) with
          sp := s.sp + 2
          pc := (read s s.sp).peek (s.sp + 1) ++ s.peek s.sp
          iff1 := s.iff2 } ∧
    exec .im0 s = .next { s with im := 0 } ∧
    exec .im1 s = .next { s with im := 1 } ∧
    exec .im2 s = .next { s with im := 2 } ∧
    exec .ldIA s = .next { s with i := s.a } ∧
    exec .ldRA s = .next { s with r := s.a } ∧
    exec .ldAI s = .next { s with a := s.i, f := fl s.i } ∧
    exec .ldAR s = .next { s with a := s.r, f := fl s.r } ∧
    exec .rld s =
      .next
        (out (v.extractLsb' 0 4 ++ s.a.extractLsb' 0 4 : BitVec (4 + 4))
          (s.a.extractLsb' 4 4 ++ v.extractLsb' 4 4 : BitVec (4 + 4))) ∧
    exec .rrd s =
      .next
        (out (s.a.extractLsb' 0 4 ++ v.extractLsb' 4 4 : BitVec (4 + 4))
          (s.a.extractLsb' 4 4 ++ v.extractLsb' 0 4 : BitVec (4 + 4)))

/-- LDI, LDD, LDIR and LDDR: one iteration a step, and a repeating one rewinds PC by 2 and costs 5 more while BC is not 0
(R431, R450 to R453). -/
def Obligations.BlockCopyResults : Prop :=
  ∀ s : State,
    let v := s.peek s.hl
    let copied := fun (dir : Word) =>
      ({ ((s.setHl (s.hl + dir)).setDe (s.de + dir)).setBc (s.bc - 1) with
         mem := Memory.write s.mem s.de.toNat v
         answers := s.answers.tail
         bus := .write s.de v :: .read s.hl v :: s.bus
         f :=
           { s.f with
             y := (s.a + v).getLsbD 1, h := false, x := (s.a + v).getLsbD 3, pv := decide (s.bc - 1 ≠ 0)
             n := false } } : State)
    let again := fun (t : State) => if s.bc - 1 = 0 then t else
      { t with pc := t.pc - 2, cycles := t.params.count (t.cycles + 5) }
    exec .ldi s = .next (copied 1) ∧
    exec .ldd s = .next (copied (0 - 1)) ∧
    exec .ldir s = .next (again (copied 1)) ∧
    exec .lddr s = .next (again (copied (0 - 1)))

/-- CPI, CPD, CPIR and CPDR: the flags of A minus the byte, with fY and fX from that result less the half-carry; a repeating one
goes on while BC is not 0 and there is no match (R431, R454 to R457). -/
def Obligations.BlockCompareResults : Prop :=
  ∀ s : State,
    let v := s.peek s.hl
    let half := decide (s.a.toNat % 16 < v.toNat % 16)
    let q := s.a - v - BitVec.ofNat 8 half.toNat
    let compared := fun (dir : Word) =>
      ({ (s.setHl (s.hl + dir)).setBc (s.bc - 1) with
         addrReg := s.addrReg + dir
         answers := s.answers.tail
         bus := .read s.hl v :: s.bus
         f :=
           { s := (s.a - v).getLsbD 7, z := decide (s.a = v), y := q.getLsbD 1, h := half, x := q.getLsbD 3
             pv := decide (s.bc - 1 ≠ 0), n := true, c := s.f.c } } : State)
    let again := fun (t : State) =>
      if s.bc - 1 ≠ 0 ∧ s.a ≠ v then { t with pc := t.pc - 2, cycles := t.params.count (t.cycles + 5) } else t
    exec .cpi s = .next (compared 1) ∧
    exec .cpd s = .next (compared (0 - 1)) ∧
    exec .cpir s = .next (again (compared 1)) ∧
    exec .cpdr s = .next (again (compared (0 - 1)))

/-- The block input and output instructions: fZ from the decremented B and fN only; the port is C; a repeating one goes on while
B is not 0 (R431, R458 to R465). -/
def Obligations.BlockInputOutputResults : Prop :=
  ∀ s : State,
    let v := s.portValue s.c
    let m := s.peek s.hl
    let after := fun (u : State) (dir : Word) =>
      ({ u.setHl (s.hl + dir) with
         b := s.b - 1
         addrReg := s.addrReg + dir
         f := { s.f with z := decide (s.b - 1 = 0), n := true } } : State)
    let got := ({ s.sawPortIn s.c with
                  mem := Memory.write s.mem s.hl.toNat v
                  bus := .write s.hl v :: .portIn s.c v :: s.bus } : State)
    let put := ({ s with answers := s.answers.tail, bus := .portOut s.c m :: .read s.hl m :: s.bus } : State)
    let again := fun (t : State) => if s.b - 1 = 0 then t else
      { t with pc := t.pc - 2, cycles := t.params.count (t.cycles + 5) }
    exec .ini s = .next (after got 1) ∧ exec .ind s = .next (after got (0 - 1)) ∧
    exec .inir s = .next (again (after got 1)) ∧ exec .indr s = .next (again (after got (0 - 1))) ∧
    exec .outi s = .next (after put 1) ∧ exec .outd s = .next (after put (0 - 1)) ∧
    exec .otir s = .next (again (after put 1)) ∧ exec .otdr s = .next (again (after put (0 - 1)))

/-! ### Frames: what an instruction leaves alone -/

/-- No register among A, B, C, D, E, H, L changes but the destinations of R43. -/
def Obligations.RegisterFrame : Prop :=
  ∀ (i : Instr) (s t : State),
    i.isPrefixRow = false → exec i s = .next t → ∀ r, r ∉ destRegs i.core → t.reg8 r = s.reg8 r

/-- No flag changes but those R45's table lets the instruction write. -/
def Obligations.FlagFrame : Prop :=
  ∀ (i : Instr) (s t : State),
    i.isPrefixRow = false → exec i s = .next t → ∀ g ∈ keptFlags i.core, g t.f = g s.f

/-- No special register, no shadow register and no control bit changes but those the rules name, no instruction touches the
interrupt requests, and the parameters of the model stay (R7, R25, R26, R30 to R38, R43, R61). -/
def Obligations.SpecialRegisterFrame : Prop :=
  ∀ (i : Instr) (s t : State),
    i.isPrefixRow = false → exec i s = .next t →
      (∀ p, p ∉ changedParts i.core → p.same s t) ∧
      t.nmiPending = s.nmiPending ∧ t.intPending = s.intPending ∧ t.intData = s.intData ∧ t.hung = s.hung ∧
      t.params = s.params

/-- Memory holds at every address outside those the instruction stores to what it held (R67). -/
def Obligations.MemoryFrame : Prop :=
  ∀ (i : Instr) (s t : State),
    i.isPrefixRow = false → exec i s = .next t → ∀ x, x ∉ storeAddrs s i.core → t.memByte x = s.memByte x

/-- The undocumented flags fY and fX are read by no instruction but PUSH AF and EX AF,AF': two states that differ only in them
give results that differ at most in them (R44). -/
def Obligations.UndocumentedFlagsAreReadByNothingElse : Prop :=
  ∀ (i : Instr) (s t : State) (y x : Bool),
    i.isPrefixRow = false → i.core ≠ .push .af → i.core ≠ .exAf → exec i s = .next t →
      ∃ y' x', exec i (s.withYX y x) = .next (t.withYX y' x')

/-! ### The step -/

/-- A step runs the decoded instruction: R counts once, the bytes are fetched in address order, the instruction has its effect
with PC past it, its base cost is added, and the interrupt state machine runs once (R503, R504, R65, R66, R610). -/
def Obligations.StepRunsDecodedInstruction : Prop :=
  ∀ (s : State) (n : Nat) (i : Instr) (rest : List Byte),
    s.hung = false → s.halted = false → decode s.params.edIoC (s.bytesAt n s.pc) = .ok (i, rest) →
      step s =
        andThen
          (exec i
            { s with
              r := (s.r &&& 0x80) ||| ((s.r + 1) &&& 0x7F)
              pc := s.pc + BitVec.ofNat 16 i.size
              answers := s.answers.drop i.size
              bus := s.fetchReads i.size s.pc ++ s.bus })
          fun t => interruptEval { t with cycles := t.params.count (t.cycles + baseCost s.params.cycleTable i) }

/-- A halted step fetches nothing, leaves PC, costs 4 and counts R once; then the interrupt state machine runs (R503, R520). A
halted CPU stays halted, with no bus call, until an interrupt is accepted. -/
def Obligations.HaltedSteps : Prop :=
  ∀ s : State,
    s.hung = false → s.halted = true →
      step s =
        interruptEval
          { s with r := (s.r &&& 0x80) ||| ((s.r + 1) &&& 0x7F), cycles := s.params.count (s.cycles + 4) } ∧
      (s.nmiPending = false → (s.intPending = false ∨ (s.iff1 = false ∧ s.eiDelay ≠ 1) ∨ 1 < s.eiDelay) →
        ∃ t, step s = .next t ∧ t.halted = true ∧ t.pc = s.pc ∧ t.cycles = s.params.count (s.cycles + 4) ∧ t.mem = s.mem ∧
          t.bus = s.bus)

/-- R counts once a step, in the low seven bits, whatever the prefixes; only `LD R,A` gives it another value, and an acceptance
does not count (R31, R504, R445). That a step which never completes (R353) shows as steps marked hung, the first of which counts R
and the later ones not, is the model's form of the hang (log 6, DEDUCED). -/
def Obligations.RefreshCountsOncePerStep : Prop :=
  ∀ s t : State,
    step s = .next t →
      (s.hung = true → t.r = s.r) ∧
      (s.hung = false →
        (t.r.toNat % 128 = (s.r.toNat + 1) % 128 ∧ t.r.getLsbD 7 = s.r.getLsbD 7) ∨
        (s.halted = false ∧ t.r = s.a ∧ ∃ i, s.instrAt = some i ∧ i.core = .ldRA))

/-- The cycle counter. `CYCLES`, as this spec takes it (log 9), gives every form of instruction the base cost of R611 to R615
(`ruleCost`), and the acceptances those of R617. With it every step that completes adds at least 4 (R610, R618), within
`CYCLE_WIDTH`; an unbounded counter never decreases, whatever `CYCLES` (R41). -/
def Obligations.CycleAccounting : Prop :=
  (∀ (io : Bool) (i : Instr), i.complete io → baseCost specCycles i = ruleCost i) ∧
  (specCycles.nmi = 11 ∧ specCycles.modeZero = 2 ∧ specCycles.modeOne = 13 ∧ specCycles.modeTwo = 19) ∧
  (∀ s t : State,
    s.params.cycleTable = specCycles → s.hung = false → step s = .next t → t.hung = false →
      ∃ n, 4 ≤ n ∧ t.cycles = s.params.count (s.cycles + n)) ∧
  (∀ s t : State, s.params.cycleWidth = none → step s = .next t → s.cycles ≤ t.cycles)

/-- The end of a step without an acceptance (R507, R38): a running enable delay counts down, at its end both flip-flops are set,
and where no NMI is pending and no maskable request is due nothing else happens. -/
def Obligations.EnableDelayCountsDown : Prop :=
  ∀ s : State,
    s.countDelay =
        (if s.eiDelay = 0 then s
        else if s.eiDelay = 1 then { s with eiDelay := 0, iff1 := true, iff2 := true }
        else { s with eiDelay := s.eiDelay - 1 }) ∧
      (s.nmiPending = false → (s.intPending = false ∨ s.countDelay.iff1 = false ∨ s.countDelay.eiDelay ≠ 0) →
        interruptEval s = .next s.countDelay)

/-- While the delay runs no maskable interrupt is accepted, IFF1 set or not, and the flip-flops keep their values; in the step
where it ends, a pending interrupt is accepted, in mode 1, in mode 2 and, where the data byte is a one-byte instruction, in
mode 0 (R38, R316, R507, R509 to R512, R606). -/
def Obligations.EnableDelayHoldsInterruptsOff : Prop :=
  ∀ s : State,
    s.nmiPending = false →
      (2 ≤ s.eiDelay → interruptEval s = .next { s with eiDelay := s.eiDelay - 1 }) ∧
      (s.eiDelay = 1 → s.intPending = true → s.im ≠ 3 →
        (s.im = 0 → ∃ i, decode s.params.edIoC [s.intData] = .ok (i, [])) →
        ∃ t, interruptEval s = .next t ∧ t.iff1 = false ∧ t.iff2 = false ∧ t.intPending = false ∧
          (s.im = 1 → t.pc = 0x0038) ∧ (s.im = 2 → t.pc = (s.push16 s.pc).peek16 (s.i ++ s.intData : BitVec (8 + 8)))) ∧
      (s.eiDelay = 1 → s.intPending = false →
        interruptEval s = .next { s with eiDelay := 0, iff1 := true, iff2 := true })

/-- The NMI comes first and ignores the flip-flops: PC is pushed, the handler is at 0x0066, IFF1 is cleared and IFF2 kept, a
maskable request stays pending (R507 (b), R508, R617). -/
def Obligations.NmiAcceptance : Prop :=
  specCycles.nmi = 11 ∧
  ∀ s : State,
    s.nmiPending = true →
      let u := s.countDelay
      interruptEval s =
        .next
          { u with
            nmiPending := false
            halted := false
            iff1 := false
            sp := u.sp - 2
            pc := 0x0066
            mem := Memory.write (Memory.write u.mem (u.sp - 1).toNat (u.pc.extractLsb' 8 8)) (u.sp - 2).toNat
              (u.pc.extractLsb' 0 8)
            bus := .write (u.sp - 2) (u.pc.extractLsb' 0 8) :: .write (u.sp - 1) (u.pc.extractLsb' 8 8) :: u.bus
            cycles := u.params.count (u.cycles + u.params.cycleTable.nmi) }

/-- A maskable interrupt in mode 1 or 2: both flip-flops cleared, the request and a halt cleared, PC pushed; mode 1 goes to
0x0038, mode 2 to the word at I:int_data, read after the push. With IM outside 0, 1 and 2 the
acceptance emits the diagnostic and changes nothing else (R507 (c), R509, R511 to R513, R617). -/
def Obligations.MaskableAcceptance : Prop :=
  specCycles.modeOne = 13 ∧ specCycles.modeTwo = 19 ∧
  ∀ s : State,
    s.nmiPending = false → s.intPending = true → s.countDelay.iff1 = true → s.countDelay.eiDelay = 0 →
      let u := s.countDelay
      let pushed :=
        ({ u with
           intPending := false
           halted := false
           iff1 := false
           iff2 := false
           sp := u.sp - 2
           mem := Memory.write (Memory.write u.mem (u.sp - 1).toNat (u.pc.extractLsb' 8 8)) (u.sp - 2).toNat
             (u.pc.extractLsb' 0 8)
           bus := .write (u.sp - 2) (u.pc.extractLsb' 0 8) :: .write (u.sp - 1) (u.pc.extractLsb' 8 8) :: u.bus } : State)
      let entry : Word := u.i ++ u.intData
      let read := fun (u : State) (x : Word) =>
        ({ u with answers := u.answers.tail, bus := .read x (u.peek x) :: u.bus } : State)
      let cost := fun (n : Nat) => u.params.count (u.cycles + n)
      (s.im = 1 → interruptEval s = .next { pushed with pc := 0x0038, cycles := cost u.params.cycleTable.modeOne }) ∧
      (s.im = 2 →
        interruptEval s =
          .next
            { read (read pushed entry) (entry + 1) with
              pc := (read pushed entry).peek (entry + 1) ++ pushed.peek entry
              cycles := cost u.params.cycleTable.modeTwo }) ∧
      (s.im = 3 → interruptEval s = .next { u with diags := .unsupportedInterruptMode 3 :: u.diags })

/-- A maskable interrupt in mode 0: a one-byte data byte runs as a base instruction with PC unchanged and costs 2 and its base
cost, as `CYCLES` has them; an RST pushes PC and jumps, for 13 in all; any other data byte is refused (R509, R510, R617). -/
def Obligations.ModeZeroAcceptance : Prop :=
  ∀ s : State,
    s.nmiPending = false → s.intPending = true → s.countDelay.iff1 = true → s.countDelay.eiDelay = 0 → s.im = 0 →
      let u := { s.countDelay with intPending := false, halted := false, iff1 := false, iff2 := false }
      let c := s.params.cycleTable
      (∀ i, decode s.params.edIoC [s.intData] = .ok (i, []) →
        ∃ t, exec i u = .next t ∧
          interruptEval s = .next { t with cycles := u.params.count (u.cycles + c.modeZero + baseCost c i) }) ∧
      (∀ y : Fin 8, s.intData = BitVec.ofNat 8 (0xC7 + 8 * y) →
        ∃ t, interruptEval s = .next t ∧ t.pc = BitVec.ofNat 16 (8 * y) ∧ t.sp = s.sp - 2 ∧
          (c = specCycles → t.cycles = s.params.count (s.cycles + 13))) ∧
      (decode s.params.edIoC [s.intData] = .error .needsMoreBytes →
        interruptEval s = .refused (.modeZeroNeedsOperands s.intData))

/-- Every step keeps the state legal: memory in canonical form, IM one of 0, 1 and 2, the enable delay at most
`EI_DELAY`, the cycle counter within `CYCLE_WIDTH` (R34, R38, R39, R41). -/
def Obligations.StepKeepsLegal : Prop :=
  ∀ s t : State, s.legal → step s = .next t → t.legal

/-- The reset state is legal, and so is the state after a reset at any time (R41, R600). The reset state is that reset with every
draw 0 and an empty memory, which is the model's choice (log 2, log 3). -/
def Obligations.ResetIsLegal : Prop :=
  State.reset.legal ∧ (∀ (s : State) (w : ResetDraw), s.legal → (s.resetWith w).legal) ∧
  State.reset =
    State.reset.resetWith
      { b := 0, c := 0, d := 0, e := 0, h := 0, l := 0, a' := 0, f' := 0, b' := 0, c' := 0, d' := 0, e' := 0, h' := 0, l' := 0
        ix := 0, iy := 0, i := 0, addrReg := 0, intData := 0 }

/-- No instruction traps: every complete instruction runs in every state. Every step completes, and leaves no hang, unless the
bytes at PC are an endless run of index prefixes or a mode-0 interrupt is supplied a byte that needs operands (R500, R516,
R119). -/
def Obligations.EveryStepCompletes : Prop :=
  (∀ (io : Bool) (i : Instr) (s : State), i.complete io → ∃ t, exec i s = .next t ∧ t.hung = s.hung) ∧
  (∀ s : State,
    s.hung = false → s.halted = true ∨ s.prefixesEnd → (∃ i, decode s.params.edIoC [s.intData] = .ok (i, [])) →
      ∃ t, step s = .next t ∧ t.hung = false)

/-- What keeps a step from completing. An endless run of index prefixes is the hang of R353: the step fetches one prefix byte
after another for ever, and no interrupt, register, cycle or memory changes; that it shows as steps of the model's, marked hung,
is the model's form (log 6). A mode-0 data byte that needs operands is what R510 refuses. There is nothing else. -/
def Obligations.StopsAreTheSpecsStops : Prop :=
  ∀ s : State,
    let fetched : State :=
      { s with pc := s.pc + 1, answers := s.answers.tail, bus := .read s.pc (s.peek s.pc) :: s.bus, hung := true }
    (s.hung = false → s.halted = false → ¬ s.prefixesEnd →
      step s = .next { fetched with r := (s.r &&& 0x80) ||| ((s.r + 1) &&& 0x7F) }) ∧
    (s.hung = true → step s = .next fetched) ∧
    (¬ s.prefixesEnd → ¬ fetched.prefixesEnd) ∧
    (∀ t, s.hung = false → step s = .next t → (t.hung = true ↔ s.halted = false ∧ ¬ s.prefixesEnd)) ∧
    (∀ r, step s = .refused r →
      r = .modeZeroNeedsOperands s.intData ∧ s.hung = false ∧ s.nmiPending = false ∧ s.intPending = true ∧
      decode s.params.edIoC [s.intData] = .error .needsMoreBytes)

/-! ### Reset and the host's operations -/

/-- Reset: the values of R600, with a free draw for every element the source's list does not name (R601); it makes no bus call,
leaves what is behind the bus, and emits no diagnostic (R602). The host's requests (R505, R506) and `dumpState` (R519). The
model's own choices: the order of the four reads of `dumpState` (log 19), and that the lists of bus calls and of diagnostics, the
host's ready answers and the parameters stay through a reset (log 1, log 4, log 5, log 20). -/
def Obligations.ResetAndHostOperations : Prop :=
  ∀ (s : State) (w : ResetDraw) (d : Byte),
    let t := s.resetWith w
    let read := fun (u : State) (x : Word) =>
      ({ u with answers := u.answers.tail, bus := .read x (u.peek x) :: u.bus } : State)
    t.pc = 0x0000 ∧ t.sp = 0xFFFF ∧ t.a = 0xFF ∧ t.f.pack = 0xFF ∧ t.iff1 = false ∧ t.iff2 = false ∧ t.im = 0 ∧ t.r = 0x00 ∧
    t.halted = false ∧ t.nmiPending = false ∧ t.intPending = false ∧ t.eiDelay = 0 ∧ t.cycles = 0 ∧ t.hung = false ∧
    t.b = w.b ∧ t.c = w.c ∧ t.d = w.d ∧ t.e = w.e ∧ t.h = w.h ∧ t.l = w.l ∧
    t.a' = w.a' ∧ t.f' = w.f' ∧ t.b' = w.b' ∧ t.c' = w.c' ∧ t.d' = w.d' ∧ t.e' = w.e' ∧ t.h' = w.h' ∧ t.l' = w.l' ∧
    t.ix = w.ix ∧ t.iy = w.iy ∧ t.i = w.i ∧ t.addrReg = w.addrReg ∧ t.intData = w.intData ∧
    t.mem = s.mem ∧ t.bus = s.bus ∧ t.diags = s.diags ∧
    t.answers = s.answers ∧ t.inputs = s.inputs ∧ t.portReads = s.portReads ∧ t.params = s.params ∧
    s.requestNmi = { s with nmiPending := true } ∧ s.requestMaskable d = { s with intPending := true, intData := d } ∧
    s.dumpState = read (read (read (read s s.pc) (s.pc + 1)) (s.pc + 2)) (s.pc + 3)
end

