-- ==== Sys2Proof/Laws/Memory.lean ====
section
/-! SUPPORT. Laws of the memory: a write leaves every other address alone, a read after a write gives the value written, and
every memory operation keeps the canonical form. -/

namespace Sys2Proof.Machine

theorem Memory.read_cons (addr : Nat) (v : Byte) (t : Memory) (x : Nat) (h : v = unlistedByte → addr = x → Memory.read t x = v) :
    Memory.read (Memory.cons addr v t) x = if addr = x then v else Memory.read t x := by
  unfold Memory.cons
  split
  · rename_i hv
    split
    · exact h hv ‹_›
    · rfl
  · rfl

/-- A write leaves every other address alone, in any memory. -/
theorem Memory.read_write_ne (m : Memory) (addr : Nat) (v : Byte) (x : Nat) (h : addr ≠ x) :
    Memory.read (Memory.write m addr v) x = Memory.read m x := by
  induction m with
  | nil => simp [Memory.write, Memory.read_cons, h]
  | cons c t ih =>
    obtain ⟨k, w⟩ := c
    simp only [Memory.write]
    split
    · simp [Memory.read_cons, h]
    · split
      · rename_i h2
        subst h2
        simp [Memory.read_cons, h, Memory.read]
      · simp [Memory.read, ih]

theorem Memory.wfFrom_mono {lo lo' : Nat} {m : Memory} (h : Memory.wfFrom lo m = true) (hl : lo' ≤ lo) :
    Memory.wfFrom lo' m = true := by
  cases m with
  | nil => rfl
  | cons c t =>
    simp only [Memory.wfFrom, Bool.and_eq_true, decide_eq_true_eq] at *
    exact ⟨⟨⟨by omega, h.1.1.2⟩, h.1.2⟩, h.2⟩

/-- Below the bound of a canonical list nothing is listed. -/
theorem Memory.read_of_lt {lo : Nat} {m : Memory} (h : Memory.wfFrom lo m = true) {x : Nat} (hx : x < lo) :
    Memory.read m x = unlistedByte := by
  induction m generalizing lo with
  | nil => rfl
  | cons c t ih =>
    simp only [Memory.wfFrom, Bool.and_eq_true, decide_eq_true_eq] at h
    rw [Memory.read, if_neg (by omega)]
    exact ih h.2 (by omega)

/-- A read after a write to the same address gives the value written, in a canonical memory. -/
theorem Memory.read_write_eq {lo : Nat} {m : Memory} (h : Memory.wfFrom lo m = true) (addr : Nat) (v : Byte) :
    Memory.read (Memory.write m addr v) addr = v := by
  induction m generalizing lo with
  | nil => rw [Memory.write, Memory.read_cons addr v [] addr (fun hv _ => hv.symm), if_pos rfl]
  | cons c t ih =>
    obtain ⟨k, w⟩ := c
    simp only [Memory.wfFrom, Bool.and_eq_true, decide_eq_true_eq] at h
    simp only [Memory.write]
    split
    · rename_i hk
      rw [Memory.read_cons _ _ _ _ (fun hv _ => ?_), if_pos rfl]
      rw [Memory.read, if_neg (by omega), Memory.read_of_lt h.2 (by omega)]
      exact hv.symm
    · split
      · rw [Memory.read_cons _ _ _ _ (fun hv _ => ?_), if_pos rfl]
        rw [Memory.read_of_lt h.2 (by omega)]
        exact hv.symm
      · rw [Memory.read, if_neg (by omega)]
        exact ih h.2

theorem Memory.wfFrom_cons {lo addr : Nat} {v : Byte} {t : Memory} (ha : lo ≤ addr) (hb : addr < 65536)
    (ht : Memory.wfFrom (addr + 1) t = true) : Memory.wfFrom lo (Memory.cons addr v t) = true := by
  unfold Memory.cons
  split
  · exact Memory.wfFrom_mono ht (by omega)
  · simp [Memory.wfFrom, *]

theorem Memory.wfFrom_write {lo : Nat} {m : Memory} (h : Memory.wfFrom lo m = true) {addr : Nat} (ha : lo ≤ addr)
    (hb : addr < 65536) (v : Byte) : Memory.wfFrom lo (Memory.write m addr v) = true := by
  induction m generalizing lo with
  | nil => exact Memory.wfFrom_cons ha hb rfl
  | cons c t ih =>
    obtain ⟨k, w⟩ := c
    have h0 := h
    simp only [Memory.wfFrom, Bool.and_eq_true, decide_eq_true_eq] at h
    simp only [Memory.write]
    split
    · refine Memory.wfFrom_cons ha hb ?_
      simp only [Memory.wfFrom, Bool.and_eq_true, decide_eq_true_eq]
      exact ⟨⟨⟨by omega, h.1.1.2⟩, h.1.2⟩, h.2⟩
    · split
      · rename_i hk
        subst hk
        exact Memory.wfFrom_cons ha hb h.2
      · simp only [Memory.wfFrom, Bool.and_eq_true, decide_eq_true_eq]
        exact ⟨h.1, ih h.2 (by omega)⟩

/-- A write keeps the canonical form. -/
theorem Memory.wf_write {m : Memory} (h : m.wf = true) (addr : Word) (v : Byte) :
    (Memory.write m addr.toNat v).wf = true :=
  Memory.wfFrom_write h (Nat.zero_le _) addr.isLt v

/-- The reset memory is canonical. -/
theorem Memory.wf_nil : Memory.wf [] = true := rfl

end Sys2Proof.Machine
end

