-- ==== Sys2Proof/Laws/State.lean ====
section
/-! SUPPORT. One lemma per field per update: what each named operation leaves in each field of the state. -/

namespace Sys2Proof.Machine

/-! ### sawRead -/

section
variable (s : State) (x : Word)

@[simp] theorem State.sawRead_a : (s.sawRead x).a = s.a := rfl
@[simp] theorem State.sawRead_f : (s.sawRead x).f = s.f := rfl
@[simp] theorem State.sawRead_b : (s.sawRead x).b = s.b := rfl
@[simp] theorem State.sawRead_c : (s.sawRead x).c = s.c := rfl
@[simp] theorem State.sawRead_d : (s.sawRead x).d = s.d := rfl
@[simp] theorem State.sawRead_e : (s.sawRead x).e = s.e := rfl
@[simp] theorem State.sawRead_h : (s.sawRead x).h = s.h := rfl
@[simp] theorem State.sawRead_l : (s.sawRead x).l = s.l := rfl
@[simp] theorem State.sawRead_a' : (s.sawRead x).a' = s.a' := rfl
@[simp] theorem State.sawRead_f' : (s.sawRead x).f' = s.f' := rfl
@[simp] theorem State.sawRead_b' : (s.sawRead x).b' = s.b' := rfl
@[simp] theorem State.sawRead_c' : (s.sawRead x).c' = s.c' := rfl
@[simp] theorem State.sawRead_d' : (s.sawRead x).d' = s.d' := rfl
@[simp] theorem State.sawRead_e' : (s.sawRead x).e' = s.e' := rfl
@[simp] theorem State.sawRead_h' : (s.sawRead x).h' = s.h' := rfl
@[simp] theorem State.sawRead_l' : (s.sawRead x).l' = s.l' := rfl
@[simp] theorem State.sawRead_ix : (s.sawRead x).ix = s.ix := rfl
@[simp] theorem State.sawRead_iy : (s.sawRead x).iy = s.iy := rfl
@[simp] theorem State.sawRead_sp : (s.sawRead x).sp = s.sp := rfl
@[simp] theorem State.sawRead_pc : (s.sawRead x).pc = s.pc := rfl
@[simp] theorem State.sawRead_i : (s.sawRead x).i = s.i := rfl
@[simp] theorem State.sawRead_r : (s.sawRead x).r = s.r := rfl
@[simp] theorem State.sawRead_addrReg : (s.sawRead x).addrReg = s.addrReg := rfl
@[simp] theorem State.sawRead_iff1 : (s.sawRead x).iff1 = s.iff1 := rfl
@[simp] theorem State.sawRead_iff2 : (s.sawRead x).iff2 = s.iff2 := rfl
@[simp] theorem State.sawRead_im : (s.sawRead x).im = s.im := rfl
@[simp] theorem State.sawRead_halted : (s.sawRead x).halted = s.halted := rfl
@[simp] theorem State.sawRead_nmiPending : (s.sawRead x).nmiPending = s.nmiPending := rfl
@[simp] theorem State.sawRead_intPending : (s.sawRead x).intPending = s.intPending := rfl
@[simp] theorem State.sawRead_intData : (s.sawRead x).intData = s.intData := rfl
@[simp] theorem State.sawRead_eiDelay : (s.sawRead x).eiDelay = s.eiDelay := rfl
@[simp] theorem State.sawRead_cycles : (s.sawRead x).cycles = s.cycles := rfl
@[simp] theorem State.sawRead_mem : (s.sawRead x).mem = s.mem := rfl
@[simp] theorem State.sawRead_bus : (s.sawRead x).bus = .read x (s.peek x) :: s.bus := rfl
@[simp] theorem State.sawRead_diags : (s.sawRead x).diags = s.diags := rfl
@[simp] theorem State.sawRead_answers : (s.sawRead x).answers = s.answers.tail := rfl
@[simp] theorem State.sawRead_inputs : (s.sawRead x).inputs = s.inputs := rfl
@[simp] theorem State.sawRead_portReads : (s.sawRead x).portReads = s.portReads := rfl
@[simp] theorem State.sawRead_hung : (s.sawRead x).hung = s.hung := rfl
@[simp] theorem State.sawRead_params : (s.sawRead x).params = s.params := rfl

end

/-! ### fetchByte -/

section
variable (s : State)

@[simp] theorem State.fetchByte_a : (s.fetchByte).a = s.a := rfl
@[simp] theorem State.fetchByte_f : (s.fetchByte).f = s.f := rfl
@[simp] theorem State.fetchByte_b : (s.fetchByte).b = s.b := rfl
@[simp] theorem State.fetchByte_c : (s.fetchByte).c = s.c := rfl
@[simp] theorem State.fetchByte_d : (s.fetchByte).d = s.d := rfl
@[simp] theorem State.fetchByte_e : (s.fetchByte).e = s.e := rfl
@[simp] theorem State.fetchByte_h : (s.fetchByte).h = s.h := rfl
@[simp] theorem State.fetchByte_l : (s.fetchByte).l = s.l := rfl
@[simp] theorem State.fetchByte_a' : (s.fetchByte).a' = s.a' := rfl
@[simp] theorem State.fetchByte_f' : (s.fetchByte).f' = s.f' := rfl
@[simp] theorem State.fetchByte_b' : (s.fetchByte).b' = s.b' := rfl
@[simp] theorem State.fetchByte_c' : (s.fetchByte).c' = s.c' := rfl
@[simp] theorem State.fetchByte_d' : (s.fetchByte).d' = s.d' := rfl
@[simp] theorem State.fetchByte_e' : (s.fetchByte).e' = s.e' := rfl
@[simp] theorem State.fetchByte_h' : (s.fetchByte).h' = s.h' := rfl
@[simp] theorem State.fetchByte_l' : (s.fetchByte).l' = s.l' := rfl
@[simp] theorem State.fetchByte_ix : (s.fetchByte).ix = s.ix := rfl
@[simp] theorem State.fetchByte_iy : (s.fetchByte).iy = s.iy := rfl
@[simp] theorem State.fetchByte_sp : (s.fetchByte).sp = s.sp := rfl
@[simp] theorem State.fetchByte_pc : (s.fetchByte).pc = s.pc + 1 := rfl
@[simp] theorem State.fetchByte_i : (s.fetchByte).i = s.i := rfl
@[simp] theorem State.fetchByte_r : (s.fetchByte).r = s.r := rfl
@[simp] theorem State.fetchByte_addrReg : (s.fetchByte).addrReg = s.addrReg := rfl
@[simp] theorem State.fetchByte_iff1 : (s.fetchByte).iff1 = s.iff1 := rfl
@[simp] theorem State.fetchByte_iff2 : (s.fetchByte).iff2 = s.iff2 := rfl
@[simp] theorem State.fetchByte_im : (s.fetchByte).im = s.im := rfl
@[simp] theorem State.fetchByte_halted : (s.fetchByte).halted = s.halted := rfl
@[simp] theorem State.fetchByte_nmiPending : (s.fetchByte).nmiPending = s.nmiPending := rfl
@[simp] theorem State.fetchByte_intPending : (s.fetchByte).intPending = s.intPending := rfl
@[simp] theorem State.fetchByte_intData : (s.fetchByte).intData = s.intData := rfl
@[simp] theorem State.fetchByte_eiDelay : (s.fetchByte).eiDelay = s.eiDelay := rfl
@[simp] theorem State.fetchByte_cycles : (s.fetchByte).cycles = s.cycles := rfl
@[simp] theorem State.fetchByte_mem : (s.fetchByte).mem = s.mem := rfl
@[simp] theorem State.fetchByte_bus : (s.fetchByte).bus = .read s.pc (s.peek s.pc) :: s.bus := rfl
@[simp] theorem State.fetchByte_diags : (s.fetchByte).diags = s.diags := rfl
@[simp] theorem State.fetchByte_answers : (s.fetchByte).answers = s.answers.tail := rfl
@[simp] theorem State.fetchByte_inputs : (s.fetchByte).inputs = s.inputs := rfl
@[simp] theorem State.fetchByte_portReads : (s.fetchByte).portReads = s.portReads := rfl
@[simp] theorem State.fetchByte_hung : (s.fetchByte).hung = s.hung := rfl
@[simp] theorem State.fetchByte_params : (s.fetchByte).params = s.params := rfl

end

/-! ### hangOn -/

section
variable (s : State)

@[simp] theorem State.hangOn_a : (s.hangOn).a = s.a := rfl
@[simp] theorem State.hangOn_f : (s.hangOn).f = s.f := rfl
@[simp] theorem State.hangOn_b : (s.hangOn).b = s.b := rfl
@[simp] theorem State.hangOn_c : (s.hangOn).c = s.c := rfl
@[simp] theorem State.hangOn_d : (s.hangOn).d = s.d := rfl
@[simp] theorem State.hangOn_e : (s.hangOn).e = s.e := rfl
@[simp] theorem State.hangOn_h : (s.hangOn).h = s.h := rfl
@[simp] theorem State.hangOn_l : (s.hangOn).l = s.l := rfl
@[simp] theorem State.hangOn_a' : (s.hangOn).a' = s.a' := rfl
@[simp] theorem State.hangOn_f' : (s.hangOn).f' = s.f' := rfl
@[simp] theorem State.hangOn_b' : (s.hangOn).b' = s.b' := rfl
@[simp] theorem State.hangOn_c' : (s.hangOn).c' = s.c' := rfl
@[simp] theorem State.hangOn_d' : (s.hangOn).d' = s.d' := rfl
@[simp] theorem State.hangOn_e' : (s.hangOn).e' = s.e' := rfl
@[simp] theorem State.hangOn_h' : (s.hangOn).h' = s.h' := rfl
@[simp] theorem State.hangOn_l' : (s.hangOn).l' = s.l' := rfl
@[simp] theorem State.hangOn_ix : (s.hangOn).ix = s.ix := rfl
@[simp] theorem State.hangOn_iy : (s.hangOn).iy = s.iy := rfl
@[simp] theorem State.hangOn_sp : (s.hangOn).sp = s.sp := rfl
@[simp] theorem State.hangOn_pc : (s.hangOn).pc = s.pc + 1 := rfl
@[simp] theorem State.hangOn_i : (s.hangOn).i = s.i := rfl
@[simp] theorem State.hangOn_r : (s.hangOn).r = s.r := rfl
@[simp] theorem State.hangOn_addrReg : (s.hangOn).addrReg = s.addrReg := rfl
@[simp] theorem State.hangOn_iff1 : (s.hangOn).iff1 = s.iff1 := rfl
@[simp] theorem State.hangOn_iff2 : (s.hangOn).iff2 = s.iff2 := rfl
@[simp] theorem State.hangOn_im : (s.hangOn).im = s.im := rfl
@[simp] theorem State.hangOn_halted : (s.hangOn).halted = s.halted := rfl
@[simp] theorem State.hangOn_nmiPending : (s.hangOn).nmiPending = s.nmiPending := rfl
@[simp] theorem State.hangOn_intPending : (s.hangOn).intPending = s.intPending := rfl
@[simp] theorem State.hangOn_intData : (s.hangOn).intData = s.intData := rfl
@[simp] theorem State.hangOn_eiDelay : (s.hangOn).eiDelay = s.eiDelay := rfl
@[simp] theorem State.hangOn_cycles : (s.hangOn).cycles = s.cycles := rfl
@[simp] theorem State.hangOn_mem : (s.hangOn).mem = s.mem := rfl
@[simp] theorem State.hangOn_bus : (s.hangOn).bus = .read s.pc (s.peek s.pc) :: s.bus := rfl
@[simp] theorem State.hangOn_diags : (s.hangOn).diags = s.diags := rfl
@[simp] theorem State.hangOn_answers : (s.hangOn).answers = s.answers.tail := rfl
@[simp] theorem State.hangOn_inputs : (s.hangOn).inputs = s.inputs := rfl
@[simp] theorem State.hangOn_portReads : (s.hangOn).portReads = s.portReads := rfl
@[simp] theorem State.hangOn_hung : (s.hangOn).hung = true := rfl
@[simp] theorem State.hangOn_params : (s.hangOn).params = s.params := rfl

end

/-! ### writeByte -/

section
variable (s : State) (x : Word) (v : Byte)

@[simp] theorem State.writeByte_a : (s.writeByte x v).a = s.a := rfl
@[simp] theorem State.writeByte_f : (s.writeByte x v).f = s.f := rfl
@[simp] theorem State.writeByte_b : (s.writeByte x v).b = s.b := rfl
@[simp] theorem State.writeByte_c : (s.writeByte x v).c = s.c := rfl
@[simp] theorem State.writeByte_d : (s.writeByte x v).d = s.d := rfl
@[simp] theorem State.writeByte_e : (s.writeByte x v).e = s.e := rfl
@[simp] theorem State.writeByte_h : (s.writeByte x v).h = s.h := rfl
@[simp] theorem State.writeByte_l : (s.writeByte x v).l = s.l := rfl
@[simp] theorem State.writeByte_a' : (s.writeByte x v).a' = s.a' := rfl
@[simp] theorem State.writeByte_f' : (s.writeByte x v).f' = s.f' := rfl
@[simp] theorem State.writeByte_b' : (s.writeByte x v).b' = s.b' := rfl
@[simp] theorem State.writeByte_c' : (s.writeByte x v).c' = s.c' := rfl
@[simp] theorem State.writeByte_d' : (s.writeByte x v).d' = s.d' := rfl
@[simp] theorem State.writeByte_e' : (s.writeByte x v).e' = s.e' := rfl
@[simp] theorem State.writeByte_h' : (s.writeByte x v).h' = s.h' := rfl
@[simp] theorem State.writeByte_l' : (s.writeByte x v).l' = s.l' := rfl
@[simp] theorem State.writeByte_ix : (s.writeByte x v).ix = s.ix := rfl
@[simp] theorem State.writeByte_iy : (s.writeByte x v).iy = s.iy := rfl
@[simp] theorem State.writeByte_sp : (s.writeByte x v).sp = s.sp := rfl
@[simp] theorem State.writeByte_pc : (s.writeByte x v).pc = s.pc := rfl
@[simp] theorem State.writeByte_i : (s.writeByte x v).i = s.i := rfl
@[simp] theorem State.writeByte_r : (s.writeByte x v).r = s.r := rfl
@[simp] theorem State.writeByte_addrReg : (s.writeByte x v).addrReg = s.addrReg := rfl
@[simp] theorem State.writeByte_iff1 : (s.writeByte x v).iff1 = s.iff1 := rfl
@[simp] theorem State.writeByte_iff2 : (s.writeByte x v).iff2 = s.iff2 := rfl
@[simp] theorem State.writeByte_im : (s.writeByte x v).im = s.im := rfl
@[simp] theorem State.writeByte_halted : (s.writeByte x v).halted = s.halted := rfl
@[simp] theorem State.writeByte_nmiPending : (s.writeByte x v).nmiPending = s.nmiPending := rfl
@[simp] theorem State.writeByte_intPending : (s.writeByte x v).intPending = s.intPending := rfl
@[simp] theorem State.writeByte_intData : (s.writeByte x v).intData = s.intData := rfl
@[simp] theorem State.writeByte_eiDelay : (s.writeByte x v).eiDelay = s.eiDelay := rfl
@[simp] theorem State.writeByte_cycles : (s.writeByte x v).cycles = s.cycles := rfl
@[simp] theorem State.writeByte_mem : (s.writeByte x v).mem = Memory.write s.mem x.toNat v := rfl
@[simp] theorem State.writeByte_bus : (s.writeByte x v).bus = .write x v :: s.bus := rfl
@[simp] theorem State.writeByte_diags : (s.writeByte x v).diags = s.diags := rfl
@[simp] theorem State.writeByte_answers : (s.writeByte x v).answers = s.answers := rfl
@[simp] theorem State.writeByte_inputs : (s.writeByte x v).inputs = s.inputs := rfl
@[simp] theorem State.writeByte_portReads : (s.writeByte x v).portReads = s.portReads := rfl
@[simp] theorem State.writeByte_hung : (s.writeByte x v).hung = s.hung := rfl
@[simp] theorem State.writeByte_params : (s.writeByte x v).params = s.params := rfl

end

/-! ### setFlags -/

section
variable (s : State) (g : Flags)

@[simp] theorem State.setFlags_a : (s.setFlags g).a = s.a := rfl
@[simp] theorem State.setFlags_f : (s.setFlags g).f = g := rfl
@[simp] theorem State.setFlags_b : (s.setFlags g).b = s.b := rfl
@[simp] theorem State.setFlags_c : (s.setFlags g).c = s.c := rfl
@[simp] theorem State.setFlags_d : (s.setFlags g).d = s.d := rfl
@[simp] theorem State.setFlags_e : (s.setFlags g).e = s.e := rfl
@[simp] theorem State.setFlags_h : (s.setFlags g).h = s.h := rfl
@[simp] theorem State.setFlags_l : (s.setFlags g).l = s.l := rfl
@[simp] theorem State.setFlags_a' : (s.setFlags g).a' = s.a' := rfl
@[simp] theorem State.setFlags_f' : (s.setFlags g).f' = s.f' := rfl
@[simp] theorem State.setFlags_b' : (s.setFlags g).b' = s.b' := rfl
@[simp] theorem State.setFlags_c' : (s.setFlags g).c' = s.c' := rfl
@[simp] theorem State.setFlags_d' : (s.setFlags g).d' = s.d' := rfl
@[simp] theorem State.setFlags_e' : (s.setFlags g).e' = s.e' := rfl
@[simp] theorem State.setFlags_h' : (s.setFlags g).h' = s.h' := rfl
@[simp] theorem State.setFlags_l' : (s.setFlags g).l' = s.l' := rfl
@[simp] theorem State.setFlags_ix : (s.setFlags g).ix = s.ix := rfl
@[simp] theorem State.setFlags_iy : (s.setFlags g).iy = s.iy := rfl
@[simp] theorem State.setFlags_sp : (s.setFlags g).sp = s.sp := rfl
@[simp] theorem State.setFlags_pc : (s.setFlags g).pc = s.pc := rfl
@[simp] theorem State.setFlags_i : (s.setFlags g).i = s.i := rfl
@[simp] theorem State.setFlags_r : (s.setFlags g).r = s.r := rfl
@[simp] theorem State.setFlags_addrReg : (s.setFlags g).addrReg = s.addrReg := rfl
@[simp] theorem State.setFlags_iff1 : (s.setFlags g).iff1 = s.iff1 := rfl
@[simp] theorem State.setFlags_iff2 : (s.setFlags g).iff2 = s.iff2 := rfl
@[simp] theorem State.setFlags_im : (s.setFlags g).im = s.im := rfl
@[simp] theorem State.setFlags_halted : (s.setFlags g).halted = s.halted := rfl
@[simp] theorem State.setFlags_nmiPending : (s.setFlags g).nmiPending = s.nmiPending := rfl
@[simp] theorem State.setFlags_intPending : (s.setFlags g).intPending = s.intPending := rfl
@[simp] theorem State.setFlags_intData : (s.setFlags g).intData = s.intData := rfl
@[simp] theorem State.setFlags_eiDelay : (s.setFlags g).eiDelay = s.eiDelay := rfl
@[simp] theorem State.setFlags_cycles : (s.setFlags g).cycles = s.cycles := rfl
@[simp] theorem State.setFlags_mem : (s.setFlags g).mem = s.mem := rfl
@[simp] theorem State.setFlags_bus : (s.setFlags g).bus = s.bus := rfl
@[simp] theorem State.setFlags_diags : (s.setFlags g).diags = s.diags := rfl
@[simp] theorem State.setFlags_answers : (s.setFlags g).answers = s.answers := rfl
@[simp] theorem State.setFlags_inputs : (s.setFlags g).inputs = s.inputs := rfl
@[simp] theorem State.setFlags_portReads : (s.setFlags g).portReads = s.portReads := rfl
@[simp] theorem State.setFlags_hung : (s.setFlags g).hung = s.hung := rfl
@[simp] theorem State.setFlags_params : (s.setFlags g).params = s.params := rfl

end

/-! ### setA -/

section
variable (s : State) (v : Byte)

@[simp] theorem State.setA_a : (s.setA v).a = v := rfl
@[simp] theorem State.setA_f : (s.setA v).f = s.f := rfl
@[simp] theorem State.setA_b : (s.setA v).b = s.b := rfl
@[simp] theorem State.setA_c : (s.setA v).c = s.c := rfl
@[simp] theorem State.setA_d : (s.setA v).d = s.d := rfl
@[simp] theorem State.setA_e : (s.setA v).e = s.e := rfl
@[simp] theorem State.setA_h : (s.setA v).h = s.h := rfl
@[simp] theorem State.setA_l : (s.setA v).l = s.l := rfl
@[simp] theorem State.setA_a' : (s.setA v).a' = s.a' := rfl
@[simp] theorem State.setA_f' : (s.setA v).f' = s.f' := rfl
@[simp] theorem State.setA_b' : (s.setA v).b' = s.b' := rfl
@[simp] theorem State.setA_c' : (s.setA v).c' = s.c' := rfl
@[simp] theorem State.setA_d' : (s.setA v).d' = s.d' := rfl
@[simp] theorem State.setA_e' : (s.setA v).e' = s.e' := rfl
@[simp] theorem State.setA_h' : (s.setA v).h' = s.h' := rfl
@[simp] theorem State.setA_l' : (s.setA v).l' = s.l' := rfl
@[simp] theorem State.setA_ix : (s.setA v).ix = s.ix := rfl
@[simp] theorem State.setA_iy : (s.setA v).iy = s.iy := rfl
@[simp] theorem State.setA_sp : (s.setA v).sp = s.sp := rfl
@[simp] theorem State.setA_pc : (s.setA v).pc = s.pc := rfl
@[simp] theorem State.setA_i : (s.setA v).i = s.i := rfl
@[simp] theorem State.setA_r : (s.setA v).r = s.r := rfl
@[simp] theorem State.setA_addrReg : (s.setA v).addrReg = s.addrReg := rfl
@[simp] theorem State.setA_iff1 : (s.setA v).iff1 = s.iff1 := rfl
@[simp] theorem State.setA_iff2 : (s.setA v).iff2 = s.iff2 := rfl
@[simp] theorem State.setA_im : (s.setA v).im = s.im := rfl
@[simp] theorem State.setA_halted : (s.setA v).halted = s.halted := rfl
@[simp] theorem State.setA_nmiPending : (s.setA v).nmiPending = s.nmiPending := rfl
@[simp] theorem State.setA_intPending : (s.setA v).intPending = s.intPending := rfl
@[simp] theorem State.setA_intData : (s.setA v).intData = s.intData := rfl
@[simp] theorem State.setA_eiDelay : (s.setA v).eiDelay = s.eiDelay := rfl
@[simp] theorem State.setA_cycles : (s.setA v).cycles = s.cycles := rfl
@[simp] theorem State.setA_mem : (s.setA v).mem = s.mem := rfl
@[simp] theorem State.setA_bus : (s.setA v).bus = s.bus := rfl
@[simp] theorem State.setA_diags : (s.setA v).diags = s.diags := rfl
@[simp] theorem State.setA_answers : (s.setA v).answers = s.answers := rfl
@[simp] theorem State.setA_inputs : (s.setA v).inputs = s.inputs := rfl
@[simp] theorem State.setA_portReads : (s.setA v).portReads = s.portReads := rfl
@[simp] theorem State.setA_hung : (s.setA v).hung = s.hung := rfl
@[simp] theorem State.setA_params : (s.setA v).params = s.params := rfl

end

/-! ### setAddrReg -/

section
variable (s : State) (x : Word)

@[simp] theorem State.setAddrReg_a : (s.setAddrReg x).a = s.a := rfl
@[simp] theorem State.setAddrReg_f : (s.setAddrReg x).f = s.f := rfl
@[simp] theorem State.setAddrReg_b : (s.setAddrReg x).b = s.b := rfl
@[simp] theorem State.setAddrReg_c : (s.setAddrReg x).c = s.c := rfl
@[simp] theorem State.setAddrReg_d : (s.setAddrReg x).d = s.d := rfl
@[simp] theorem State.setAddrReg_e : (s.setAddrReg x).e = s.e := rfl
@[simp] theorem State.setAddrReg_h : (s.setAddrReg x).h = s.h := rfl
@[simp] theorem State.setAddrReg_l : (s.setAddrReg x).l = s.l := rfl
@[simp] theorem State.setAddrReg_a' : (s.setAddrReg x).a' = s.a' := rfl
@[simp] theorem State.setAddrReg_f' : (s.setAddrReg x).f' = s.f' := rfl
@[simp] theorem State.setAddrReg_b' : (s.setAddrReg x).b' = s.b' := rfl
@[simp] theorem State.setAddrReg_c' : (s.setAddrReg x).c' = s.c' := rfl
@[simp] theorem State.setAddrReg_d' : (s.setAddrReg x).d' = s.d' := rfl
@[simp] theorem State.setAddrReg_e' : (s.setAddrReg x).e' = s.e' := rfl
@[simp] theorem State.setAddrReg_h' : (s.setAddrReg x).h' = s.h' := rfl
@[simp] theorem State.setAddrReg_l' : (s.setAddrReg x).l' = s.l' := rfl
@[simp] theorem State.setAddrReg_ix : (s.setAddrReg x).ix = s.ix := rfl
@[simp] theorem State.setAddrReg_iy : (s.setAddrReg x).iy = s.iy := rfl
@[simp] theorem State.setAddrReg_sp : (s.setAddrReg x).sp = s.sp := rfl
@[simp] theorem State.setAddrReg_pc : (s.setAddrReg x).pc = s.pc := rfl
@[simp] theorem State.setAddrReg_i : (s.setAddrReg x).i = s.i := rfl
@[simp] theorem State.setAddrReg_r : (s.setAddrReg x).r = s.r := rfl
@[simp] theorem State.setAddrReg_addrReg : (s.setAddrReg x).addrReg = x := rfl
@[simp] theorem State.setAddrReg_iff1 : (s.setAddrReg x).iff1 = s.iff1 := rfl
@[simp] theorem State.setAddrReg_iff2 : (s.setAddrReg x).iff2 = s.iff2 := rfl
@[simp] theorem State.setAddrReg_im : (s.setAddrReg x).im = s.im := rfl
@[simp] theorem State.setAddrReg_halted : (s.setAddrReg x).halted = s.halted := rfl
@[simp] theorem State.setAddrReg_nmiPending : (s.setAddrReg x).nmiPending = s.nmiPending := rfl
@[simp] theorem State.setAddrReg_intPending : (s.setAddrReg x).intPending = s.intPending := rfl
@[simp] theorem State.setAddrReg_intData : (s.setAddrReg x).intData = s.intData := rfl
@[simp] theorem State.setAddrReg_eiDelay : (s.setAddrReg x).eiDelay = s.eiDelay := rfl
@[simp] theorem State.setAddrReg_cycles : (s.setAddrReg x).cycles = s.cycles := rfl
@[simp] theorem State.setAddrReg_mem : (s.setAddrReg x).mem = s.mem := rfl
@[simp] theorem State.setAddrReg_bus : (s.setAddrReg x).bus = s.bus := rfl
@[simp] theorem State.setAddrReg_diags : (s.setAddrReg x).diags = s.diags := rfl
@[simp] theorem State.setAddrReg_answers : (s.setAddrReg x).answers = s.answers := rfl
@[simp] theorem State.setAddrReg_inputs : (s.setAddrReg x).inputs = s.inputs := rfl
@[simp] theorem State.setAddrReg_portReads : (s.setAddrReg x).portReads = s.portReads := rfl
@[simp] theorem State.setAddrReg_hung : (s.setAddrReg x).hung = s.hung := rfl
@[simp] theorem State.setAddrReg_params : (s.setAddrReg x).params = s.params := rfl

end

/-! ### jump -/

section
variable (s : State) (x : Word)

@[simp] theorem State.jump_a : (s.jump x).a = s.a := rfl
@[simp] theorem State.jump_f : (s.jump x).f = s.f := rfl
@[simp] theorem State.jump_b : (s.jump x).b = s.b := rfl
@[simp] theorem State.jump_c : (s.jump x).c = s.c := rfl
@[simp] theorem State.jump_d : (s.jump x).d = s.d := rfl
@[simp] theorem State.jump_e : (s.jump x).e = s.e := rfl
@[simp] theorem State.jump_h : (s.jump x).h = s.h := rfl
@[simp] theorem State.jump_l : (s.jump x).l = s.l := rfl
@[simp] theorem State.jump_a' : (s.jump x).a' = s.a' := rfl
@[simp] theorem State.jump_f' : (s.jump x).f' = s.f' := rfl
@[simp] theorem State.jump_b' : (s.jump x).b' = s.b' := rfl
@[simp] theorem State.jump_c' : (s.jump x).c' = s.c' := rfl
@[simp] theorem State.jump_d' : (s.jump x).d' = s.d' := rfl
@[simp] theorem State.jump_e' : (s.jump x).e' = s.e' := rfl
@[simp] theorem State.jump_h' : (s.jump x).h' = s.h' := rfl
@[simp] theorem State.jump_l' : (s.jump x).l' = s.l' := rfl
@[simp] theorem State.jump_ix : (s.jump x).ix = s.ix := rfl
@[simp] theorem State.jump_iy : (s.jump x).iy = s.iy := rfl
@[simp] theorem State.jump_sp : (s.jump x).sp = s.sp := rfl
@[simp] theorem State.jump_pc : (s.jump x).pc = x := rfl
@[simp] theorem State.jump_i : (s.jump x).i = s.i := rfl
@[simp] theorem State.jump_r : (s.jump x).r = s.r := rfl
@[simp] theorem State.jump_addrReg : (s.jump x).addrReg = s.addrReg := rfl
@[simp] theorem State.jump_iff1 : (s.jump x).iff1 = s.iff1 := rfl
@[simp] theorem State.jump_iff2 : (s.jump x).iff2 = s.iff2 := rfl
@[simp] theorem State.jump_im : (s.jump x).im = s.im := rfl
@[simp] theorem State.jump_halted : (s.jump x).halted = s.halted := rfl
@[simp] theorem State.jump_nmiPending : (s.jump x).nmiPending = s.nmiPending := rfl
@[simp] theorem State.jump_intPending : (s.jump x).intPending = s.intPending := rfl
@[simp] theorem State.jump_intData : (s.jump x).intData = s.intData := rfl
@[simp] theorem State.jump_eiDelay : (s.jump x).eiDelay = s.eiDelay := rfl
@[simp] theorem State.jump_cycles : (s.jump x).cycles = s.cycles := rfl
@[simp] theorem State.jump_mem : (s.jump x).mem = s.mem := rfl
@[simp] theorem State.jump_bus : (s.jump x).bus = s.bus := rfl
@[simp] theorem State.jump_diags : (s.jump x).diags = s.diags := rfl
@[simp] theorem State.jump_answers : (s.jump x).answers = s.answers := rfl
@[simp] theorem State.jump_inputs : (s.jump x).inputs = s.inputs := rfl
@[simp] theorem State.jump_portReads : (s.jump x).portReads = s.portReads := rfl
@[simp] theorem State.jump_hung : (s.jump x).hung = s.hung := rfl
@[simp] theorem State.jump_params : (s.jump x).params = s.params := rfl

end

/-! ### tick -/

section
variable (s : State) (n : Nat)

@[simp] theorem State.tick_a : (s.tick n).a = s.a := rfl
@[simp] theorem State.tick_f : (s.tick n).f = s.f := rfl
@[simp] theorem State.tick_b : (s.tick n).b = s.b := rfl
@[simp] theorem State.tick_c : (s.tick n).c = s.c := rfl
@[simp] theorem State.tick_d : (s.tick n).d = s.d := rfl
@[simp] theorem State.tick_e : (s.tick n).e = s.e := rfl
@[simp] theorem State.tick_h : (s.tick n).h = s.h := rfl
@[simp] theorem State.tick_l : (s.tick n).l = s.l := rfl
@[simp] theorem State.tick_a' : (s.tick n).a' = s.a' := rfl
@[simp] theorem State.tick_f' : (s.tick n).f' = s.f' := rfl
@[simp] theorem State.tick_b' : (s.tick n).b' = s.b' := rfl
@[simp] theorem State.tick_c' : (s.tick n).c' = s.c' := rfl
@[simp] theorem State.tick_d' : (s.tick n).d' = s.d' := rfl
@[simp] theorem State.tick_e' : (s.tick n).e' = s.e' := rfl
@[simp] theorem State.tick_h' : (s.tick n).h' = s.h' := rfl
@[simp] theorem State.tick_l' : (s.tick n).l' = s.l' := rfl
@[simp] theorem State.tick_ix : (s.tick n).ix = s.ix := rfl
@[simp] theorem State.tick_iy : (s.tick n).iy = s.iy := rfl
@[simp] theorem State.tick_sp : (s.tick n).sp = s.sp := rfl
@[simp] theorem State.tick_pc : (s.tick n).pc = s.pc := rfl
@[simp] theorem State.tick_i : (s.tick n).i = s.i := rfl
@[simp] theorem State.tick_r : (s.tick n).r = s.r := rfl
@[simp] theorem State.tick_addrReg : (s.tick n).addrReg = s.addrReg := rfl
@[simp] theorem State.tick_iff1 : (s.tick n).iff1 = s.iff1 := rfl
@[simp] theorem State.tick_iff2 : (s.tick n).iff2 = s.iff2 := rfl
@[simp] theorem State.tick_im : (s.tick n).im = s.im := rfl
@[simp] theorem State.tick_halted : (s.tick n).halted = s.halted := rfl
@[simp] theorem State.tick_nmiPending : (s.tick n).nmiPending = s.nmiPending := rfl
@[simp] theorem State.tick_intPending : (s.tick n).intPending = s.intPending := rfl
@[simp] theorem State.tick_intData : (s.tick n).intData = s.intData := rfl
@[simp] theorem State.tick_eiDelay : (s.tick n).eiDelay = s.eiDelay := rfl
@[simp] theorem State.tick_cycles : (s.tick n).cycles = s.params.count (s.cycles + n) := rfl
@[simp] theorem State.tick_mem : (s.tick n).mem = s.mem := rfl
@[simp] theorem State.tick_bus : (s.tick n).bus = s.bus := rfl
@[simp] theorem State.tick_diags : (s.tick n).diags = s.diags := rfl
@[simp] theorem State.tick_answers : (s.tick n).answers = s.answers := rfl
@[simp] theorem State.tick_inputs : (s.tick n).inputs = s.inputs := rfl
@[simp] theorem State.tick_portReads : (s.tick n).portReads = s.portReads := rfl
@[simp] theorem State.tick_hung : (s.tick n).hung = s.hung := rfl
@[simp] theorem State.tick_params : (s.tick n).params = s.params := rfl

end

/-! ### surcharge -/

section
variable (s : State) (n : Nat)

@[simp] theorem State.surcharge_a : (s.surcharge n).a = s.a := rfl
@[simp] theorem State.surcharge_f : (s.surcharge n).f = s.f := rfl
@[simp] theorem State.surcharge_b : (s.surcharge n).b = s.b := rfl
@[simp] theorem State.surcharge_c : (s.surcharge n).c = s.c := rfl
@[simp] theorem State.surcharge_d : (s.surcharge n).d = s.d := rfl
@[simp] theorem State.surcharge_e : (s.surcharge n).e = s.e := rfl
@[simp] theorem State.surcharge_h : (s.surcharge n).h = s.h := rfl
@[simp] theorem State.surcharge_l : (s.surcharge n).l = s.l := rfl
@[simp] theorem State.surcharge_a' : (s.surcharge n).a' = s.a' := rfl
@[simp] theorem State.surcharge_f' : (s.surcharge n).f' = s.f' := rfl
@[simp] theorem State.surcharge_b' : (s.surcharge n).b' = s.b' := rfl
@[simp] theorem State.surcharge_c' : (s.surcharge n).c' = s.c' := rfl
@[simp] theorem State.surcharge_d' : (s.surcharge n).d' = s.d' := rfl
@[simp] theorem State.surcharge_e' : (s.surcharge n).e' = s.e' := rfl
@[simp] theorem State.surcharge_h' : (s.surcharge n).h' = s.h' := rfl
@[simp] theorem State.surcharge_l' : (s.surcharge n).l' = s.l' := rfl
@[simp] theorem State.surcharge_ix : (s.surcharge n).ix = s.ix := rfl
@[simp] theorem State.surcharge_iy : (s.surcharge n).iy = s.iy := rfl
@[simp] theorem State.surcharge_sp : (s.surcharge n).sp = s.sp := rfl
@[simp] theorem State.surcharge_pc : (s.surcharge n).pc = s.pc := rfl
@[simp] theorem State.surcharge_i : (s.surcharge n).i = s.i := rfl
@[simp] theorem State.surcharge_r : (s.surcharge n).r = s.r := rfl
@[simp] theorem State.surcharge_addrReg : (s.surcharge n).addrReg = s.addrReg := rfl
@[simp] theorem State.surcharge_iff1 : (s.surcharge n).iff1 = s.iff1 := rfl
@[simp] theorem State.surcharge_iff2 : (s.surcharge n).iff2 = s.iff2 := rfl
@[simp] theorem State.surcharge_im : (s.surcharge n).im = s.im := rfl
@[simp] theorem State.surcharge_halted : (s.surcharge n).halted = s.halted := rfl
@[simp] theorem State.surcharge_nmiPending : (s.surcharge n).nmiPending = s.nmiPending := rfl
@[simp] theorem State.surcharge_intPending : (s.surcharge n).intPending = s.intPending := rfl
@[simp] theorem State.surcharge_intData : (s.surcharge n).intData = s.intData := rfl
@[simp] theorem State.surcharge_eiDelay : (s.surcharge n).eiDelay = s.eiDelay := rfl
@[simp] theorem State.surcharge_cycles : (s.surcharge n).cycles = s.params.count (s.cycles + n) := rfl
@[simp] theorem State.surcharge_mem : (s.surcharge n).mem = s.mem := rfl
@[simp] theorem State.surcharge_bus : (s.surcharge n).bus = s.bus := rfl
@[simp] theorem State.surcharge_diags : (s.surcharge n).diags = s.diags := rfl
@[simp] theorem State.surcharge_answers : (s.surcharge n).answers = s.answers := rfl
@[simp] theorem State.surcharge_inputs : (s.surcharge n).inputs = s.inputs := rfl
@[simp] theorem State.surcharge_portReads : (s.surcharge n).portReads = s.portReads := rfl
@[simp] theorem State.surcharge_hung : (s.surcharge n).hung = s.hung := rfl
@[simp] theorem State.surcharge_params : (s.surcharge n).params = s.params := rfl

end

/-! ### incR -/

section
variable (s : State)

@[simp] theorem State.incR_a : (s.incR).a = s.a := rfl
@[simp] theorem State.incR_f : (s.incR).f = s.f := rfl
@[simp] theorem State.incR_b : (s.incR).b = s.b := rfl
@[simp] theorem State.incR_c : (s.incR).c = s.c := rfl
@[simp] theorem State.incR_d : (s.incR).d = s.d := rfl
@[simp] theorem State.incR_e : (s.incR).e = s.e := rfl
@[simp] theorem State.incR_h : (s.incR).h = s.h := rfl
@[simp] theorem State.incR_l : (s.incR).l = s.l := rfl
@[simp] theorem State.incR_a' : (s.incR).a' = s.a' := rfl
@[simp] theorem State.incR_f' : (s.incR).f' = s.f' := rfl
@[simp] theorem State.incR_b' : (s.incR).b' = s.b' := rfl
@[simp] theorem State.incR_c' : (s.incR).c' = s.c' := rfl
@[simp] theorem State.incR_d' : (s.incR).d' = s.d' := rfl
@[simp] theorem State.incR_e' : (s.incR).e' = s.e' := rfl
@[simp] theorem State.incR_h' : (s.incR).h' = s.h' := rfl
@[simp] theorem State.incR_l' : (s.incR).l' = s.l' := rfl
@[simp] theorem State.incR_ix : (s.incR).ix = s.ix := rfl
@[simp] theorem State.incR_iy : (s.incR).iy = s.iy := rfl
@[simp] theorem State.incR_sp : (s.incR).sp = s.sp := rfl
@[simp] theorem State.incR_pc : (s.incR).pc = s.pc := rfl
@[simp] theorem State.incR_i : (s.incR).i = s.i := rfl
@[simp] theorem State.incR_r : (s.incR).r = (s.r &&& 0x80) ||| ((s.r + 1) &&& 0x7F) := rfl
@[simp] theorem State.incR_addrReg : (s.incR).addrReg = s.addrReg := rfl
@[simp] theorem State.incR_iff1 : (s.incR).iff1 = s.iff1 := rfl
@[simp] theorem State.incR_iff2 : (s.incR).iff2 = s.iff2 := rfl
@[simp] theorem State.incR_im : (s.incR).im = s.im := rfl
@[simp] theorem State.incR_halted : (s.incR).halted = s.halted := rfl
@[simp] theorem State.incR_nmiPending : (s.incR).nmiPending = s.nmiPending := rfl
@[simp] theorem State.incR_intPending : (s.incR).intPending = s.intPending := rfl
@[simp] theorem State.incR_intData : (s.incR).intData = s.intData := rfl
@[simp] theorem State.incR_eiDelay : (s.incR).eiDelay = s.eiDelay := rfl
@[simp] theorem State.incR_cycles : (s.incR).cycles = s.cycles := rfl
@[simp] theorem State.incR_mem : (s.incR).mem = s.mem := rfl
@[simp] theorem State.incR_bus : (s.incR).bus = s.bus := rfl
@[simp] theorem State.incR_diags : (s.incR).diags = s.diags := rfl
@[simp] theorem State.incR_answers : (s.incR).answers = s.answers := rfl
@[simp] theorem State.incR_inputs : (s.incR).inputs = s.inputs := rfl
@[simp] theorem State.incR_portReads : (s.incR).portReads = s.portReads := rfl
@[simp] theorem State.incR_hung : (s.incR).hung = s.hung := rfl
@[simp] theorem State.incR_params : (s.incR).params = s.params := rfl

end

/-! ### diag -/

section
variable (s : State) (ev : Diag)

@[simp] theorem State.diag_a : (s.diag ev).a = s.a := rfl
@[simp] theorem State.diag_f : (s.diag ev).f = s.f := rfl
@[simp] theorem State.diag_b : (s.diag ev).b = s.b := rfl
@[simp] theorem State.diag_c : (s.diag ev).c = s.c := rfl
@[simp] theorem State.diag_d : (s.diag ev).d = s.d := rfl
@[simp] theorem State.diag_e : (s.diag ev).e = s.e := rfl
@[simp] theorem State.diag_h : (s.diag ev).h = s.h := rfl
@[simp] theorem State.diag_l : (s.diag ev).l = s.l := rfl
@[simp] theorem State.diag_a' : (s.diag ev).a' = s.a' := rfl
@[simp] theorem State.diag_f' : (s.diag ev).f' = s.f' := rfl
@[simp] theorem State.diag_b' : (s.diag ev).b' = s.b' := rfl
@[simp] theorem State.diag_c' : (s.diag ev).c' = s.c' := rfl
@[simp] theorem State.diag_d' : (s.diag ev).d' = s.d' := rfl
@[simp] theorem State.diag_e' : (s.diag ev).e' = s.e' := rfl
@[simp] theorem State.diag_h' : (s.diag ev).h' = s.h' := rfl
@[simp] theorem State.diag_l' : (s.diag ev).l' = s.l' := rfl
@[simp] theorem State.diag_ix : (s.diag ev).ix = s.ix := rfl
@[simp] theorem State.diag_iy : (s.diag ev).iy = s.iy := rfl
@[simp] theorem State.diag_sp : (s.diag ev).sp = s.sp := rfl
@[simp] theorem State.diag_pc : (s.diag ev).pc = s.pc := rfl
@[simp] theorem State.diag_i : (s.diag ev).i = s.i := rfl
@[simp] theorem State.diag_r : (s.diag ev).r = s.r := rfl
@[simp] theorem State.diag_addrReg : (s.diag ev).addrReg = s.addrReg := rfl
@[simp] theorem State.diag_iff1 : (s.diag ev).iff1 = s.iff1 := rfl
@[simp] theorem State.diag_iff2 : (s.diag ev).iff2 = s.iff2 := rfl
@[simp] theorem State.diag_im : (s.diag ev).im = s.im := rfl
@[simp] theorem State.diag_halted : (s.diag ev).halted = s.halted := rfl
@[simp] theorem State.diag_nmiPending : (s.diag ev).nmiPending = s.nmiPending := rfl
@[simp] theorem State.diag_intPending : (s.diag ev).intPending = s.intPending := rfl
@[simp] theorem State.diag_intData : (s.diag ev).intData = s.intData := rfl
@[simp] theorem State.diag_eiDelay : (s.diag ev).eiDelay = s.eiDelay := rfl
@[simp] theorem State.diag_cycles : (s.diag ev).cycles = s.cycles := rfl
@[simp] theorem State.diag_mem : (s.diag ev).mem = s.mem := rfl
@[simp] theorem State.diag_bus : (s.diag ev).bus = s.bus := rfl
@[simp] theorem State.diag_diags : (s.diag ev).diags = ev :: s.diags := rfl
@[simp] theorem State.diag_answers : (s.diag ev).answers = s.answers := rfl
@[simp] theorem State.diag_inputs : (s.diag ev).inputs = s.inputs := rfl
@[simp] theorem State.diag_portReads : (s.diag ev).portReads = s.portReads := rfl
@[simp] theorem State.diag_hung : (s.diag ev).hung = s.hung := rfl
@[simp] theorem State.diag_params : (s.diag ev).params = s.params := rfl

end

/-! ### portOut -/

section
variable (s : State) (p v : Byte)

@[simp] theorem State.portOut_a : (s.portOut p v).a = s.a := rfl
@[simp] theorem State.portOut_f : (s.portOut p v).f = s.f := rfl
@[simp] theorem State.portOut_b : (s.portOut p v).b = s.b := rfl
@[simp] theorem State.portOut_c : (s.portOut p v).c = s.c := rfl
@[simp] theorem State.portOut_d : (s.portOut p v).d = s.d := rfl
@[simp] theorem State.portOut_e : (s.portOut p v).e = s.e := rfl
@[simp] theorem State.portOut_h : (s.portOut p v).h = s.h := rfl
@[simp] theorem State.portOut_l : (s.portOut p v).l = s.l := rfl
@[simp] theorem State.portOut_a' : (s.portOut p v).a' = s.a' := rfl
@[simp] theorem State.portOut_f' : (s.portOut p v).f' = s.f' := rfl
@[simp] theorem State.portOut_b' : (s.portOut p v).b' = s.b' := rfl
@[simp] theorem State.portOut_c' : (s.portOut p v).c' = s.c' := rfl
@[simp] theorem State.portOut_d' : (s.portOut p v).d' = s.d' := rfl
@[simp] theorem State.portOut_e' : (s.portOut p v).e' = s.e' := rfl
@[simp] theorem State.portOut_h' : (s.portOut p v).h' = s.h' := rfl
@[simp] theorem State.portOut_l' : (s.portOut p v).l' = s.l' := rfl
@[simp] theorem State.portOut_ix : (s.portOut p v).ix = s.ix := rfl
@[simp] theorem State.portOut_iy : (s.portOut p v).iy = s.iy := rfl
@[simp] theorem State.portOut_sp : (s.portOut p v).sp = s.sp := rfl
@[simp] theorem State.portOut_pc : (s.portOut p v).pc = s.pc := rfl
@[simp] theorem State.portOut_i : (s.portOut p v).i = s.i := rfl
@[simp] theorem State.portOut_r : (s.portOut p v).r = s.r := rfl
@[simp] theorem State.portOut_addrReg : (s.portOut p v).addrReg = s.addrReg := rfl
@[simp] theorem State.portOut_iff1 : (s.portOut p v).iff1 = s.iff1 := rfl
@[simp] theorem State.portOut_iff2 : (s.portOut p v).iff2 = s.iff2 := rfl
@[simp] theorem State.portOut_im : (s.portOut p v).im = s.im := rfl
@[simp] theorem State.portOut_halted : (s.portOut p v).halted = s.halted := rfl
@[simp] theorem State.portOut_nmiPending : (s.portOut p v).nmiPending = s.nmiPending := rfl
@[simp] theorem State.portOut_intPending : (s.portOut p v).intPending = s.intPending := rfl
@[simp] theorem State.portOut_intData : (s.portOut p v).intData = s.intData := rfl
@[simp] theorem State.portOut_eiDelay : (s.portOut p v).eiDelay = s.eiDelay := rfl
@[simp] theorem State.portOut_cycles : (s.portOut p v).cycles = s.cycles := rfl
@[simp] theorem State.portOut_mem : (s.portOut p v).mem = s.mem := rfl
@[simp] theorem State.portOut_bus : (s.portOut p v).bus = .portOut p v :: s.bus := rfl
@[simp] theorem State.portOut_diags : (s.portOut p v).diags = s.diags := rfl
@[simp] theorem State.portOut_answers : (s.portOut p v).answers = s.answers := rfl
@[simp] theorem State.portOut_inputs : (s.portOut p v).inputs = s.inputs := rfl
@[simp] theorem State.portOut_portReads : (s.portOut p v).portReads = s.portReads := rfl
@[simp] theorem State.portOut_hung : (s.portOut p v).hung = s.hung := rfl
@[simp] theorem State.portOut_params : (s.portOut p v).params = s.params := rfl

end

/-! ### setBc -/

section
variable (s : State) (v : Word)

@[simp] theorem State.setBc_a : (s.setBc v).a = s.a := rfl
@[simp] theorem State.setBc_f : (s.setBc v).f = s.f := rfl
@[simp] theorem State.setBc_b : (s.setBc v).b = hiByte v := rfl
@[simp] theorem State.setBc_c : (s.setBc v).c = loByte v := rfl
@[simp] theorem State.setBc_d : (s.setBc v).d = s.d := rfl
@[simp] theorem State.setBc_e : (s.setBc v).e = s.e := rfl
@[simp] theorem State.setBc_h : (s.setBc v).h = s.h := rfl
@[simp] theorem State.setBc_l : (s.setBc v).l = s.l := rfl
@[simp] theorem State.setBc_a' : (s.setBc v).a' = s.a' := rfl
@[simp] theorem State.setBc_f' : (s.setBc v).f' = s.f' := rfl
@[simp] theorem State.setBc_b' : (s.setBc v).b' = s.b' := rfl
@[simp] theorem State.setBc_c' : (s.setBc v).c' = s.c' := rfl
@[simp] theorem State.setBc_d' : (s.setBc v).d' = s.d' := rfl
@[simp] theorem State.setBc_e' : (s.setBc v).e' = s.e' := rfl
@[simp] theorem State.setBc_h' : (s.setBc v).h' = s.h' := rfl
@[simp] theorem State.setBc_l' : (s.setBc v).l' = s.l' := rfl
@[simp] theorem State.setBc_ix : (s.setBc v).ix = s.ix := rfl
@[simp] theorem State.setBc_iy : (s.setBc v).iy = s.iy := rfl
@[simp] theorem State.setBc_sp : (s.setBc v).sp = s.sp := rfl
@[simp] theorem State.setBc_pc : (s.setBc v).pc = s.pc := rfl
@[simp] theorem State.setBc_i : (s.setBc v).i = s.i := rfl
@[simp] theorem State.setBc_r : (s.setBc v).r = s.r := rfl
@[simp] theorem State.setBc_addrReg : (s.setBc v).addrReg = s.addrReg := rfl
@[simp] theorem State.setBc_iff1 : (s.setBc v).iff1 = s.iff1 := rfl
@[simp] theorem State.setBc_iff2 : (s.setBc v).iff2 = s.iff2 := rfl
@[simp] theorem State.setBc_im : (s.setBc v).im = s.im := rfl
@[simp] theorem State.setBc_halted : (s.setBc v).halted = s.halted := rfl
@[simp] theorem State.setBc_nmiPending : (s.setBc v).nmiPending = s.nmiPending := rfl
@[simp] theorem State.setBc_intPending : (s.setBc v).intPending = s.intPending := rfl
@[simp] theorem State.setBc_intData : (s.setBc v).intData = s.intData := rfl
@[simp] theorem State.setBc_eiDelay : (s.setBc v).eiDelay = s.eiDelay := rfl
@[simp] theorem State.setBc_cycles : (s.setBc v).cycles = s.cycles := rfl
@[simp] theorem State.setBc_mem : (s.setBc v).mem = s.mem := rfl
@[simp] theorem State.setBc_bus : (s.setBc v).bus = s.bus := rfl
@[simp] theorem State.setBc_diags : (s.setBc v).diags = s.diags := rfl
@[simp] theorem State.setBc_answers : (s.setBc v).answers = s.answers := rfl
@[simp] theorem State.setBc_inputs : (s.setBc v).inputs = s.inputs := rfl
@[simp] theorem State.setBc_portReads : (s.setBc v).portReads = s.portReads := rfl
@[simp] theorem State.setBc_hung : (s.setBc v).hung = s.hung := rfl
@[simp] theorem State.setBc_params : (s.setBc v).params = s.params := rfl

end

/-! ### setDe -/

section
variable (s : State) (v : Word)

@[simp] theorem State.setDe_a : (s.setDe v).a = s.a := rfl
@[simp] theorem State.setDe_f : (s.setDe v).f = s.f := rfl
@[simp] theorem State.setDe_b : (s.setDe v).b = s.b := rfl
@[simp] theorem State.setDe_c : (s.setDe v).c = s.c := rfl
@[simp] theorem State.setDe_d : (s.setDe v).d = hiByte v := rfl
@[simp] theorem State.setDe_e : (s.setDe v).e = loByte v := rfl
@[simp] theorem State.setDe_h : (s.setDe v).h = s.h := rfl
@[simp] theorem State.setDe_l : (s.setDe v).l = s.l := rfl
@[simp] theorem State.setDe_a' : (s.setDe v).a' = s.a' := rfl
@[simp] theorem State.setDe_f' : (s.setDe v).f' = s.f' := rfl
@[simp] theorem State.setDe_b' : (s.setDe v).b' = s.b' := rfl
@[simp] theorem State.setDe_c' : (s.setDe v).c' = s.c' := rfl
@[simp] theorem State.setDe_d' : (s.setDe v).d' = s.d' := rfl
@[simp] theorem State.setDe_e' : (s.setDe v).e' = s.e' := rfl
@[simp] theorem State.setDe_h' : (s.setDe v).h' = s.h' := rfl
@[simp] theorem State.setDe_l' : (s.setDe v).l' = s.l' := rfl
@[simp] theorem State.setDe_ix : (s.setDe v).ix = s.ix := rfl
@[simp] theorem State.setDe_iy : (s.setDe v).iy = s.iy := rfl
@[simp] theorem State.setDe_sp : (s.setDe v).sp = s.sp := rfl
@[simp] theorem State.setDe_pc : (s.setDe v).pc = s.pc := rfl
@[simp] theorem State.setDe_i : (s.setDe v).i = s.i := rfl
@[simp] theorem State.setDe_r : (s.setDe v).r = s.r := rfl
@[simp] theorem State.setDe_addrReg : (s.setDe v).addrReg = s.addrReg := rfl
@[simp] theorem State.setDe_iff1 : (s.setDe v).iff1 = s.iff1 := rfl
@[simp] theorem State.setDe_iff2 : (s.setDe v).iff2 = s.iff2 := rfl
@[simp] theorem State.setDe_im : (s.setDe v).im = s.im := rfl
@[simp] theorem State.setDe_halted : (s.setDe v).halted = s.halted := rfl
@[simp] theorem State.setDe_nmiPending : (s.setDe v).nmiPending = s.nmiPending := rfl
@[simp] theorem State.setDe_intPending : (s.setDe v).intPending = s.intPending := rfl
@[simp] theorem State.setDe_intData : (s.setDe v).intData = s.intData := rfl
@[simp] theorem State.setDe_eiDelay : (s.setDe v).eiDelay = s.eiDelay := rfl
@[simp] theorem State.setDe_cycles : (s.setDe v).cycles = s.cycles := rfl
@[simp] theorem State.setDe_mem : (s.setDe v).mem = s.mem := rfl
@[simp] theorem State.setDe_bus : (s.setDe v).bus = s.bus := rfl
@[simp] theorem State.setDe_diags : (s.setDe v).diags = s.diags := rfl
@[simp] theorem State.setDe_answers : (s.setDe v).answers = s.answers := rfl
@[simp] theorem State.setDe_inputs : (s.setDe v).inputs = s.inputs := rfl
@[simp] theorem State.setDe_portReads : (s.setDe v).portReads = s.portReads := rfl
@[simp] theorem State.setDe_hung : (s.setDe v).hung = s.hung := rfl
@[simp] theorem State.setDe_params : (s.setDe v).params = s.params := rfl

end

/-! ### setHl -/

section
variable (s : State) (v : Word)

@[simp] theorem State.setHl_a : (s.setHl v).a = s.a := rfl
@[simp] theorem State.setHl_f : (s.setHl v).f = s.f := rfl
@[simp] theorem State.setHl_b : (s.setHl v).b = s.b := rfl
@[simp] theorem State.setHl_c : (s.setHl v).c = s.c := rfl
@[simp] theorem State.setHl_d : (s.setHl v).d = s.d := rfl
@[simp] theorem State.setHl_e : (s.setHl v).e = s.e := rfl
@[simp] theorem State.setHl_h : (s.setHl v).h = hiByte v := rfl
@[simp] theorem State.setHl_l : (s.setHl v).l = loByte v := rfl
@[simp] theorem State.setHl_a' : (s.setHl v).a' = s.a' := rfl
@[simp] theorem State.setHl_f' : (s.setHl v).f' = s.f' := rfl
@[simp] theorem State.setHl_b' : (s.setHl v).b' = s.b' := rfl
@[simp] theorem State.setHl_c' : (s.setHl v).c' = s.c' := rfl
@[simp] theorem State.setHl_d' : (s.setHl v).d' = s.d' := rfl
@[simp] theorem State.setHl_e' : (s.setHl v).e' = s.e' := rfl
@[simp] theorem State.setHl_h' : (s.setHl v).h' = s.h' := rfl
@[simp] theorem State.setHl_l' : (s.setHl v).l' = s.l' := rfl
@[simp] theorem State.setHl_ix : (s.setHl v).ix = s.ix := rfl
@[simp] theorem State.setHl_iy : (s.setHl v).iy = s.iy := rfl
@[simp] theorem State.setHl_sp : (s.setHl v).sp = s.sp := rfl
@[simp] theorem State.setHl_pc : (s.setHl v).pc = s.pc := rfl
@[simp] theorem State.setHl_i : (s.setHl v).i = s.i := rfl
@[simp] theorem State.setHl_r : (s.setHl v).r = s.r := rfl
@[simp] theorem State.setHl_addrReg : (s.setHl v).addrReg = s.addrReg := rfl
@[simp] theorem State.setHl_iff1 : (s.setHl v).iff1 = s.iff1 := rfl
@[simp] theorem State.setHl_iff2 : (s.setHl v).iff2 = s.iff2 := rfl
@[simp] theorem State.setHl_im : (s.setHl v).im = s.im := rfl
@[simp] theorem State.setHl_halted : (s.setHl v).halted = s.halted := rfl
@[simp] theorem State.setHl_nmiPending : (s.setHl v).nmiPending = s.nmiPending := rfl
@[simp] theorem State.setHl_intPending : (s.setHl v).intPending = s.intPending := rfl
@[simp] theorem State.setHl_intData : (s.setHl v).intData = s.intData := rfl
@[simp] theorem State.setHl_eiDelay : (s.setHl v).eiDelay = s.eiDelay := rfl
@[simp] theorem State.setHl_cycles : (s.setHl v).cycles = s.cycles := rfl
@[simp] theorem State.setHl_mem : (s.setHl v).mem = s.mem := rfl
@[simp] theorem State.setHl_bus : (s.setHl v).bus = s.bus := rfl
@[simp] theorem State.setHl_diags : (s.setHl v).diags = s.diags := rfl
@[simp] theorem State.setHl_answers : (s.setHl v).answers = s.answers := rfl
@[simp] theorem State.setHl_inputs : (s.setHl v).inputs = s.inputs := rfl
@[simp] theorem State.setHl_portReads : (s.setHl v).portReads = s.portReads := rfl
@[simp] theorem State.setHl_hung : (s.setHl v).hung = s.hung := rfl
@[simp] theorem State.setHl_params : (s.setHl v).params = s.params := rfl

end

/-! ### setAf -/

section
variable (s : State) (v : Word)

@[simp] theorem State.setAf_a : (s.setAf v).a = hiByte v := rfl
@[simp] theorem State.setAf_f : (s.setAf v).f = Flags.unpack (loByte v) := rfl
@[simp] theorem State.setAf_b : (s.setAf v).b = s.b := rfl
@[simp] theorem State.setAf_c : (s.setAf v).c = s.c := rfl
@[simp] theorem State.setAf_d : (s.setAf v).d = s.d := rfl
@[simp] theorem State.setAf_e : (s.setAf v).e = s.e := rfl
@[simp] theorem State.setAf_h : (s.setAf v).h = s.h := rfl
@[simp] theorem State.setAf_l : (s.setAf v).l = s.l := rfl
@[simp] theorem State.setAf_a' : (s.setAf v).a' = s.a' := rfl
@[simp] theorem State.setAf_f' : (s.setAf v).f' = s.f' := rfl
@[simp] theorem State.setAf_b' : (s.setAf v).b' = s.b' := rfl
@[simp] theorem State.setAf_c' : (s.setAf v).c' = s.c' := rfl
@[simp] theorem State.setAf_d' : (s.setAf v).d' = s.d' := rfl
@[simp] theorem State.setAf_e' : (s.setAf v).e' = s.e' := rfl
@[simp] theorem State.setAf_h' : (s.setAf v).h' = s.h' := rfl
@[simp] theorem State.setAf_l' : (s.setAf v).l' = s.l' := rfl
@[simp] theorem State.setAf_ix : (s.setAf v).ix = s.ix := rfl
@[simp] theorem State.setAf_iy : (s.setAf v).iy = s.iy := rfl
@[simp] theorem State.setAf_sp : (s.setAf v).sp = s.sp := rfl
@[simp] theorem State.setAf_pc : (s.setAf v).pc = s.pc := rfl
@[simp] theorem State.setAf_i : (s.setAf v).i = s.i := rfl
@[simp] theorem State.setAf_r : (s.setAf v).r = s.r := rfl
@[simp] theorem State.setAf_addrReg : (s.setAf v).addrReg = s.addrReg := rfl
@[simp] theorem State.setAf_iff1 : (s.setAf v).iff1 = s.iff1 := rfl
@[simp] theorem State.setAf_iff2 : (s.setAf v).iff2 = s.iff2 := rfl
@[simp] theorem State.setAf_im : (s.setAf v).im = s.im := rfl
@[simp] theorem State.setAf_halted : (s.setAf v).halted = s.halted := rfl
@[simp] theorem State.setAf_nmiPending : (s.setAf v).nmiPending = s.nmiPending := rfl
@[simp] theorem State.setAf_intPending : (s.setAf v).intPending = s.intPending := rfl
@[simp] theorem State.setAf_intData : (s.setAf v).intData = s.intData := rfl
@[simp] theorem State.setAf_eiDelay : (s.setAf v).eiDelay = s.eiDelay := rfl
@[simp] theorem State.setAf_cycles : (s.setAf v).cycles = s.cycles := rfl
@[simp] theorem State.setAf_mem : (s.setAf v).mem = s.mem := rfl
@[simp] theorem State.setAf_bus : (s.setAf v).bus = s.bus := rfl
@[simp] theorem State.setAf_diags : (s.setAf v).diags = s.diags := rfl
@[simp] theorem State.setAf_answers : (s.setAf v).answers = s.answers := rfl
@[simp] theorem State.setAf_inputs : (s.setAf v).inputs = s.inputs := rfl
@[simp] theorem State.setAf_portReads : (s.setAf v).portReads = s.portReads := rfl
@[simp] theorem State.setAf_hung : (s.setAf v).hung = s.hung := rfl
@[simp] theorem State.setAf_params : (s.setAf v).params = s.params := rfl

end

/-! ### setReg8 -/

section
variable (s : State) (q : Reg8) (v : Byte)

@[simp] theorem State.setReg8_f : (s.setReg8 q v).f = s.f := by cases q <;> rfl
@[simp] theorem State.setReg8_a' : (s.setReg8 q v).a' = s.a' := by cases q <;> rfl
@[simp] theorem State.setReg8_f' : (s.setReg8 q v).f' = s.f' := by cases q <;> rfl
@[simp] theorem State.setReg8_b' : (s.setReg8 q v).b' = s.b' := by cases q <;> rfl
@[simp] theorem State.setReg8_c' : (s.setReg8 q v).c' = s.c' := by cases q <;> rfl
@[simp] theorem State.setReg8_d' : (s.setReg8 q v).d' = s.d' := by cases q <;> rfl
@[simp] theorem State.setReg8_e' : (s.setReg8 q v).e' = s.e' := by cases q <;> rfl
@[simp] theorem State.setReg8_h' : (s.setReg8 q v).h' = s.h' := by cases q <;> rfl
@[simp] theorem State.setReg8_l' : (s.setReg8 q v).l' = s.l' := by cases q <;> rfl
@[simp] theorem State.setReg8_ix : (s.setReg8 q v).ix = s.ix := by cases q <;> rfl
@[simp] theorem State.setReg8_iy : (s.setReg8 q v).iy = s.iy := by cases q <;> rfl
@[simp] theorem State.setReg8_sp : (s.setReg8 q v).sp = s.sp := by cases q <;> rfl
@[simp] theorem State.setReg8_pc : (s.setReg8 q v).pc = s.pc := by cases q <;> rfl
@[simp] theorem State.setReg8_i : (s.setReg8 q v).i = s.i := by cases q <;> rfl
@[simp] theorem State.setReg8_r : (s.setReg8 q v).r = s.r := by cases q <;> rfl
@[simp] theorem State.setReg8_addrReg : (s.setReg8 q v).addrReg = s.addrReg := by cases q <;> rfl
@[simp] theorem State.setReg8_iff1 : (s.setReg8 q v).iff1 = s.iff1 := by cases q <;> rfl
@[simp] theorem State.setReg8_iff2 : (s.setReg8 q v).iff2 = s.iff2 := by cases q <;> rfl
@[simp] theorem State.setReg8_im : (s.setReg8 q v).im = s.im := by cases q <;> rfl
@[simp] theorem State.setReg8_halted : (s.setReg8 q v).halted = s.halted := by cases q <;> rfl
@[simp] theorem State.setReg8_nmiPending : (s.setReg8 q v).nmiPending = s.nmiPending := by cases q <;> rfl
@[simp] theorem State.setReg8_intPending : (s.setReg8 q v).intPending = s.intPending := by cases q <;> rfl
@[simp] theorem State.setReg8_intData : (s.setReg8 q v).intData = s.intData := by cases q <;> rfl
@[simp] theorem State.setReg8_eiDelay : (s.setReg8 q v).eiDelay = s.eiDelay := by cases q <;> rfl
@[simp] theorem State.setReg8_cycles : (s.setReg8 q v).cycles = s.cycles := by cases q <;> rfl
@[simp] theorem State.setReg8_mem : (s.setReg8 q v).mem = s.mem := by cases q <;> rfl
@[simp] theorem State.setReg8_bus : (s.setReg8 q v).bus = s.bus := by cases q <;> rfl
@[simp] theorem State.setReg8_diags : (s.setReg8 q v).diags = s.diags := by cases q <;> rfl
@[simp] theorem State.setReg8_answers : (s.setReg8 q v).answers = s.answers := by cases q <;> rfl
@[simp] theorem State.setReg8_inputs : (s.setReg8 q v).inputs = s.inputs := by cases q <;> rfl
@[simp] theorem State.setReg8_portReads : (s.setReg8 q v).portReads = s.portReads := by cases q <;> rfl
@[simp] theorem State.setReg8_hung : (s.setReg8 q v).hung = s.hung := by cases q <;> rfl
@[simp] theorem State.setReg8_params : (s.setReg8 q v).params = s.params := by cases q <;> rfl

end

/-! ### setRp -/

section
variable (s : State) (q : RPair) (v : Word)

@[simp] theorem State.setRp_a : (s.setRp q v).a = s.a := by cases q <;> rfl
@[simp] theorem State.setRp_f : (s.setRp q v).f = s.f := by cases q <;> rfl
@[simp] theorem State.setRp_a' : (s.setRp q v).a' = s.a' := by cases q <;> rfl
@[simp] theorem State.setRp_f' : (s.setRp q v).f' = s.f' := by cases q <;> rfl
@[simp] theorem State.setRp_b' : (s.setRp q v).b' = s.b' := by cases q <;> rfl
@[simp] theorem State.setRp_c' : (s.setRp q v).c' = s.c' := by cases q <;> rfl
@[simp] theorem State.setRp_d' : (s.setRp q v).d' = s.d' := by cases q <;> rfl
@[simp] theorem State.setRp_e' : (s.setRp q v).e' = s.e' := by cases q <;> rfl
@[simp] theorem State.setRp_h' : (s.setRp q v).h' = s.h' := by cases q <;> rfl
@[simp] theorem State.setRp_l' : (s.setRp q v).l' = s.l' := by cases q <;> rfl
@[simp] theorem State.setRp_ix : (s.setRp q v).ix = s.ix := by cases q <;> rfl
@[simp] theorem State.setRp_iy : (s.setRp q v).iy = s.iy := by cases q <;> rfl
@[simp] theorem State.setRp_pc : (s.setRp q v).pc = s.pc := by cases q <;> rfl
@[simp] theorem State.setRp_i : (s.setRp q v).i = s.i := by cases q <;> rfl
@[simp] theorem State.setRp_r : (s.setRp q v).r = s.r := by cases q <;> rfl
@[simp] theorem State.setRp_addrReg : (s.setRp q v).addrReg = s.addrReg := by cases q <;> rfl
@[simp] theorem State.setRp_iff1 : (s.setRp q v).iff1 = s.iff1 := by cases q <;> rfl
@[simp] theorem State.setRp_iff2 : (s.setRp q v).iff2 = s.iff2 := by cases q <;> rfl
@[simp] theorem State.setRp_im : (s.setRp q v).im = s.im := by cases q <;> rfl
@[simp] theorem State.setRp_halted : (s.setRp q v).halted = s.halted := by cases q <;> rfl
@[simp] theorem State.setRp_nmiPending : (s.setRp q v).nmiPending = s.nmiPending := by cases q <;> rfl
@[simp] theorem State.setRp_intPending : (s.setRp q v).intPending = s.intPending := by cases q <;> rfl
@[simp] theorem State.setRp_intData : (s.setRp q v).intData = s.intData := by cases q <;> rfl
@[simp] theorem State.setRp_eiDelay : (s.setRp q v).eiDelay = s.eiDelay := by cases q <;> rfl
@[simp] theorem State.setRp_cycles : (s.setRp q v).cycles = s.cycles := by cases q <;> rfl
@[simp] theorem State.setRp_mem : (s.setRp q v).mem = s.mem := by cases q <;> rfl
@[simp] theorem State.setRp_bus : (s.setRp q v).bus = s.bus := by cases q <;> rfl
@[simp] theorem State.setRp_diags : (s.setRp q v).diags = s.diags := by cases q <;> rfl
@[simp] theorem State.setRp_answers : (s.setRp q v).answers = s.answers := by cases q <;> rfl
@[simp] theorem State.setRp_inputs : (s.setRp q v).inputs = s.inputs := by cases q <;> rfl
@[simp] theorem State.setRp_portReads : (s.setRp q v).portReads = s.portReads := by cases q <;> rfl
@[simp] theorem State.setRp_hung : (s.setRp q v).hung = s.hung := by cases q <;> rfl
@[simp] theorem State.setRp_params : (s.setRp q v).params = s.params := by cases q <;> rfl

end

/-! ### setRp2 -/

section
variable (s : State) (q : RPair2) (v : Word)

@[simp] theorem State.setRp2_a' : (s.setRp2 q v).a' = s.a' := by cases q <;> rfl
@[simp] theorem State.setRp2_f' : (s.setRp2 q v).f' = s.f' := by cases q <;> rfl
@[simp] theorem State.setRp2_b' : (s.setRp2 q v).b' = s.b' := by cases q <;> rfl
@[simp] theorem State.setRp2_c' : (s.setRp2 q v).c' = s.c' := by cases q <;> rfl
@[simp] theorem State.setRp2_d' : (s.setRp2 q v).d' = s.d' := by cases q <;> rfl
@[simp] theorem State.setRp2_e' : (s.setRp2 q v).e' = s.e' := by cases q <;> rfl
@[simp] theorem State.setRp2_h' : (s.setRp2 q v).h' = s.h' := by cases q <;> rfl
@[simp] theorem State.setRp2_l' : (s.setRp2 q v).l' = s.l' := by cases q <;> rfl
@[simp] theorem State.setRp2_ix : (s.setRp2 q v).ix = s.ix := by cases q <;> rfl
@[simp] theorem State.setRp2_iy : (s.setRp2 q v).iy = s.iy := by cases q <;> rfl
@[simp] theorem State.setRp2_sp : (s.setRp2 q v).sp = s.sp := by cases q <;> rfl
@[simp] theorem State.setRp2_pc : (s.setRp2 q v).pc = s.pc := by cases q <;> rfl
@[simp] theorem State.setRp2_i : (s.setRp2 q v).i = s.i := by cases q <;> rfl
@[simp] theorem State.setRp2_r : (s.setRp2 q v).r = s.r := by cases q <;> rfl
@[simp] theorem State.setRp2_addrReg : (s.setRp2 q v).addrReg = s.addrReg := by cases q <;> rfl
@[simp] theorem State.setRp2_iff1 : (s.setRp2 q v).iff1 = s.iff1 := by cases q <;> rfl
@[simp] theorem State.setRp2_iff2 : (s.setRp2 q v).iff2 = s.iff2 := by cases q <;> rfl
@[simp] theorem State.setRp2_im : (s.setRp2 q v).im = s.im := by cases q <;> rfl
@[simp] theorem State.setRp2_halted : (s.setRp2 q v).halted = s.halted := by cases q <;> rfl
@[simp] theorem State.setRp2_nmiPending : (s.setRp2 q v).nmiPending = s.nmiPending := by cases q <;> rfl
@[simp] theorem State.setRp2_intPending : (s.setRp2 q v).intPending = s.intPending := by cases q <;> rfl
@[simp] theorem State.setRp2_intData : (s.setRp2 q v).intData = s.intData := by cases q <;> rfl
@[simp] theorem State.setRp2_eiDelay : (s.setRp2 q v).eiDelay = s.eiDelay := by cases q <;> rfl
@[simp] theorem State.setRp2_cycles : (s.setRp2 q v).cycles = s.cycles := by cases q <;> rfl
@[simp] theorem State.setRp2_mem : (s.setRp2 q v).mem = s.mem := by cases q <;> rfl
@[simp] theorem State.setRp2_bus : (s.setRp2 q v).bus = s.bus := by cases q <;> rfl
@[simp] theorem State.setRp2_diags : (s.setRp2 q v).diags = s.diags := by cases q <;> rfl
@[simp] theorem State.setRp2_answers : (s.setRp2 q v).answers = s.answers := by cases q <;> rfl
@[simp] theorem State.setRp2_inputs : (s.setRp2 q v).inputs = s.inputs := by cases q <;> rfl
@[simp] theorem State.setRp2_portReads : (s.setRp2 q v).portReads = s.portReads := by cases q <;> rfl
@[simp] theorem State.setRp2_hung : (s.setRp2 q v).hung = s.hung := by cases q <;> rfl
@[simp] theorem State.setRp2_params : (s.setRp2 q v).params = s.params := by cases q <;> rfl

end

/-! ### setXy -/

section
variable (s : State) (q : Idx) (v : Word)

@[simp] theorem State.setXy_a : (s.setXy q v).a = s.a := by cases q <;> rfl
@[simp] theorem State.setXy_f : (s.setXy q v).f = s.f := by cases q <;> rfl
@[simp] theorem State.setXy_b : (s.setXy q v).b = s.b := by cases q <;> rfl
@[simp] theorem State.setXy_c : (s.setXy q v).c = s.c := by cases q <;> rfl
@[simp] theorem State.setXy_d : (s.setXy q v).d = s.d := by cases q <;> rfl
@[simp] theorem State.setXy_e : (s.setXy q v).e = s.e := by cases q <;> rfl
@[simp] theorem State.setXy_h : (s.setXy q v).h = s.h := by cases q <;> rfl
@[simp] theorem State.setXy_l : (s.setXy q v).l = s.l := by cases q <;> rfl
@[simp] theorem State.setXy_a' : (s.setXy q v).a' = s.a' := by cases q <;> rfl
@[simp] theorem State.setXy_f' : (s.setXy q v).f' = s.f' := by cases q <;> rfl
@[simp] theorem State.setXy_b' : (s.setXy q v).b' = s.b' := by cases q <;> rfl
@[simp] theorem State.setXy_c' : (s.setXy q v).c' = s.c' := by cases q <;> rfl
@[simp] theorem State.setXy_d' : (s.setXy q v).d' = s.d' := by cases q <;> rfl
@[simp] theorem State.setXy_e' : (s.setXy q v).e' = s.e' := by cases q <;> rfl
@[simp] theorem State.setXy_h' : (s.setXy q v).h' = s.h' := by cases q <;> rfl
@[simp] theorem State.setXy_l' : (s.setXy q v).l' = s.l' := by cases q <;> rfl
@[simp] theorem State.setXy_sp : (s.setXy q v).sp = s.sp := by cases q <;> rfl
@[simp] theorem State.setXy_pc : (s.setXy q v).pc = s.pc := by cases q <;> rfl
@[simp] theorem State.setXy_i : (s.setXy q v).i = s.i := by cases q <;> rfl
@[simp] theorem State.setXy_r : (s.setXy q v).r = s.r := by cases q <;> rfl
@[simp] theorem State.setXy_addrReg : (s.setXy q v).addrReg = s.addrReg := by cases q <;> rfl
@[simp] theorem State.setXy_iff1 : (s.setXy q v).iff1 = s.iff1 := by cases q <;> rfl
@[simp] theorem State.setXy_iff2 : (s.setXy q v).iff2 = s.iff2 := by cases q <;> rfl
@[simp] theorem State.setXy_im : (s.setXy q v).im = s.im := by cases q <;> rfl
@[simp] theorem State.setXy_halted : (s.setXy q v).halted = s.halted := by cases q <;> rfl
@[simp] theorem State.setXy_nmiPending : (s.setXy q v).nmiPending = s.nmiPending := by cases q <;> rfl
@[simp] theorem State.setXy_intPending : (s.setXy q v).intPending = s.intPending := by cases q <;> rfl
@[simp] theorem State.setXy_intData : (s.setXy q v).intData = s.intData := by cases q <;> rfl
@[simp] theorem State.setXy_eiDelay : (s.setXy q v).eiDelay = s.eiDelay := by cases q <;> rfl
@[simp] theorem State.setXy_cycles : (s.setXy q v).cycles = s.cycles := by cases q <;> rfl
@[simp] theorem State.setXy_mem : (s.setXy q v).mem = s.mem := by cases q <;> rfl
@[simp] theorem State.setXy_bus : (s.setXy q v).bus = s.bus := by cases q <;> rfl
@[simp] theorem State.setXy_diags : (s.setXy q v).diags = s.diags := by cases q <;> rfl
@[simp] theorem State.setXy_answers : (s.setXy q v).answers = s.answers := by cases q <;> rfl
@[simp] theorem State.setXy_inputs : (s.setXy q v).inputs = s.inputs := by cases q <;> rfl
@[simp] theorem State.setXy_portReads : (s.setXy q v).portReads = s.portReads := by cases q <;> rfl
@[simp] theorem State.setXy_hung : (s.setXy q v).hung = s.hung := by cases q <;> rfl
@[simp] theorem State.setXy_params : (s.setXy q v).params = s.params := by cases q <;> rfl

end

/-! ### setXReg -/

section
variable (s : State) (q : Idx) (k : XReg) (v : Byte)

@[simp] theorem State.setXReg_f : (s.setXReg q k v).f = s.f := by cases k <;> cases q <;> rfl
@[simp] theorem State.setXReg_h : (s.setXReg q k v).h = s.h := by cases k <;> cases q <;> rfl
@[simp] theorem State.setXReg_l : (s.setXReg q k v).l = s.l := by cases k <;> cases q <;> rfl
@[simp] theorem State.setXReg_a' : (s.setXReg q k v).a' = s.a' := by cases k <;> cases q <;> rfl
@[simp] theorem State.setXReg_f' : (s.setXReg q k v).f' = s.f' := by cases k <;> cases q <;> rfl
@[simp] theorem State.setXReg_b' : (s.setXReg q k v).b' = s.b' := by cases k <;> cases q <;> rfl
@[simp] theorem State.setXReg_c' : (s.setXReg q k v).c' = s.c' := by cases k <;> cases q <;> rfl
@[simp] theorem State.setXReg_d' : (s.setXReg q k v).d' = s.d' := by cases k <;> cases q <;> rfl
@[simp] theorem State.setXReg_e' : (s.setXReg q k v).e' = s.e' := by cases k <;> cases q <;> rfl
@[simp] theorem State.setXReg_h' : (s.setXReg q k v).h' = s.h' := by cases k <;> cases q <;> rfl
@[simp] theorem State.setXReg_l' : (s.setXReg q k v).l' = s.l' := by cases k <;> cases q <;> rfl
@[simp] theorem State.setXReg_sp : (s.setXReg q k v).sp = s.sp := by cases k <;> cases q <;> rfl
@[simp] theorem State.setXReg_pc : (s.setXReg q k v).pc = s.pc := by cases k <;> cases q <;> rfl
@[simp] theorem State.setXReg_i : (s.setXReg q k v).i = s.i := by cases k <;> cases q <;> rfl
@[simp] theorem State.setXReg_r : (s.setXReg q k v).r = s.r := by cases k <;> cases q <;> rfl
@[simp] theorem State.setXReg_addrReg : (s.setXReg q k v).addrReg = s.addrReg := by cases k <;> cases q <;> rfl
@[simp] theorem State.setXReg_iff1 : (s.setXReg q k v).iff1 = s.iff1 := by cases k <;> cases q <;> rfl
@[simp] theorem State.setXReg_iff2 : (s.setXReg q k v).iff2 = s.iff2 := by cases k <;> cases q <;> rfl
@[simp] theorem State.setXReg_im : (s.setXReg q k v).im = s.im := by cases k <;> cases q <;> rfl
@[simp] theorem State.setXReg_halted : (s.setXReg q k v).halted = s.halted := by cases k <;> cases q <;> rfl
@[simp] theorem State.setXReg_nmiPending : (s.setXReg q k v).nmiPending = s.nmiPending := by cases k <;> cases q <;> rfl
@[simp] theorem State.setXReg_intPending : (s.setXReg q k v).intPending = s.intPending := by cases k <;> cases q <;> rfl
@[simp] theorem State.setXReg_intData : (s.setXReg q k v).intData = s.intData := by cases k <;> cases q <;> rfl
@[simp] theorem State.setXReg_eiDelay : (s.setXReg q k v).eiDelay = s.eiDelay := by cases k <;> cases q <;> rfl
@[simp] theorem State.setXReg_cycles : (s.setXReg q k v).cycles = s.cycles := by cases k <;> cases q <;> rfl
@[simp] theorem State.setXReg_mem : (s.setXReg q k v).mem = s.mem := by cases k <;> cases q <;> rfl
@[simp] theorem State.setXReg_bus : (s.setXReg q k v).bus = s.bus := by cases k <;> cases q <;> rfl
@[simp] theorem State.setXReg_diags : (s.setXReg q k v).diags = s.diags := by cases k <;> cases q <;> rfl
@[simp] theorem State.setXReg_answers : (s.setXReg q k v).answers = s.answers := by cases k <;> cases q <;> rfl
@[simp] theorem State.setXReg_inputs : (s.setXReg q k v).inputs = s.inputs := by cases k <;> cases q <;> rfl
@[simp] theorem State.setXReg_portReads : (s.setXReg q k v).portReads = s.portReads := by cases k <;> cases q <;> rfl
@[simp] theorem State.setXReg_hung : (s.setXReg q k v).hung = s.hung := by cases k <;> cases q <;> rfl
@[simp] theorem State.setXReg_params : (s.setXReg q k v).params = s.params := by cases k <;> cases q <;> rfl

end

/-! ### sawPortIn -/

section
variable (s : State) (p : Byte)

@[simp] theorem State.sawPortIn_a : (s.sawPortIn p).a = s.a := by unfold State.sawPortIn; split <;> rfl
@[simp] theorem State.sawPortIn_f : (s.sawPortIn p).f = s.f := by unfold State.sawPortIn; split <;> rfl
@[simp] theorem State.sawPortIn_b : (s.sawPortIn p).b = s.b := by unfold State.sawPortIn; split <;> rfl
@[simp] theorem State.sawPortIn_c : (s.sawPortIn p).c = s.c := by unfold State.sawPortIn; split <;> rfl
@[simp] theorem State.sawPortIn_d : (s.sawPortIn p).d = s.d := by unfold State.sawPortIn; split <;> rfl
@[simp] theorem State.sawPortIn_e : (s.sawPortIn p).e = s.e := by unfold State.sawPortIn; split <;> rfl
@[simp] theorem State.sawPortIn_h : (s.sawPortIn p).h = s.h := by unfold State.sawPortIn; split <;> rfl
@[simp] theorem State.sawPortIn_l : (s.sawPortIn p).l = s.l := by unfold State.sawPortIn; split <;> rfl
@[simp] theorem State.sawPortIn_a' : (s.sawPortIn p).a' = s.a' := by unfold State.sawPortIn; split <;> rfl
@[simp] theorem State.sawPortIn_f' : (s.sawPortIn p).f' = s.f' := by unfold State.sawPortIn; split <;> rfl
@[simp] theorem State.sawPortIn_b' : (s.sawPortIn p).b' = s.b' := by unfold State.sawPortIn; split <;> rfl
@[simp] theorem State.sawPortIn_c' : (s.sawPortIn p).c' = s.c' := by unfold State.sawPortIn; split <;> rfl
@[simp] theorem State.sawPortIn_d' : (s.sawPortIn p).d' = s.d' := by unfold State.sawPortIn; split <;> rfl
@[simp] theorem State.sawPortIn_e' : (s.sawPortIn p).e' = s.e' := by unfold State.sawPortIn; split <;> rfl
@[simp] theorem State.sawPortIn_h' : (s.sawPortIn p).h' = s.h' := by unfold State.sawPortIn; split <;> rfl
@[simp] theorem State.sawPortIn_l' : (s.sawPortIn p).l' = s.l' := by unfold State.sawPortIn; split <;> rfl
@[simp] theorem State.sawPortIn_ix : (s.sawPortIn p).ix = s.ix := by unfold State.sawPortIn; split <;> rfl
@[simp] theorem State.sawPortIn_iy : (s.sawPortIn p).iy = s.iy := by unfold State.sawPortIn; split <;> rfl
@[simp] theorem State.sawPortIn_sp : (s.sawPortIn p).sp = s.sp := by unfold State.sawPortIn; split <;> rfl
@[simp] theorem State.sawPortIn_pc : (s.sawPortIn p).pc = s.pc := by unfold State.sawPortIn; split <;> rfl
@[simp] theorem State.sawPortIn_i : (s.sawPortIn p).i = s.i := by unfold State.sawPortIn; split <;> rfl
@[simp] theorem State.sawPortIn_r : (s.sawPortIn p).r = s.r := by unfold State.sawPortIn; split <;> rfl
@[simp] theorem State.sawPortIn_addrReg : (s.sawPortIn p).addrReg = s.addrReg := by unfold State.sawPortIn; split <;> rfl
@[simp] theorem State.sawPortIn_iff1 : (s.sawPortIn p).iff1 = s.iff1 := by unfold State.sawPortIn; split <;> rfl
@[simp] theorem State.sawPortIn_iff2 : (s.sawPortIn p).iff2 = s.iff2 := by unfold State.sawPortIn; split <;> rfl
@[simp] theorem State.sawPortIn_im : (s.sawPortIn p).im = s.im := by unfold State.sawPortIn; split <;> rfl
@[simp] theorem State.sawPortIn_halted : (s.sawPortIn p).halted = s.halted := by unfold State.sawPortIn; split <;> rfl
@[simp] theorem State.sawPortIn_nmiPending : (s.sawPortIn p).nmiPending = s.nmiPending := by unfold State.sawPortIn; split <;> rfl
@[simp] theorem State.sawPortIn_intPending : (s.sawPortIn p).intPending = s.intPending := by unfold State.sawPortIn; split <;> rfl
@[simp] theorem State.sawPortIn_intData : (s.sawPortIn p).intData = s.intData := by unfold State.sawPortIn; split <;> rfl
@[simp] theorem State.sawPortIn_eiDelay : (s.sawPortIn p).eiDelay = s.eiDelay := by unfold State.sawPortIn; split <;> rfl
@[simp] theorem State.sawPortIn_cycles : (s.sawPortIn p).cycles = s.cycles := by unfold State.sawPortIn; split <;> rfl
@[simp] theorem State.sawPortIn_mem : (s.sawPortIn p).mem = s.mem := by unfold State.sawPortIn; split <;> rfl
@[simp] theorem State.sawPortIn_diags : (s.sawPortIn p).diags = s.diags := by unfold State.sawPortIn; split <;> rfl
@[simp] theorem State.sawPortIn_answers : (s.sawPortIn p).answers = s.answers := by unfold State.sawPortIn; split <;> rfl
@[simp] theorem State.sawPortIn_hung : (s.sawPortIn p).hung = s.hung := by unfold State.sawPortIn; split <;> rfl
@[simp] theorem State.sawPortIn_params : (s.sawPortIn p).params = s.params := by unfold State.sawPortIn; split <;> rfl

end

end Sys2Proof.Machine
end

