-- ==== Sys2Proof/Laws/Ops.lean ====
section
/-! SUPPORT. One lemma per shared operation: everything it can do, so that no proof unfolds it. -/

namespace Sys2Proof.Machine

/-! ### Outcomes -/

@[simp] theorem andThen_next (s : State) (k : State → Host.Outcome State Fault Refusal) : andThen (.next s) k = k s := rfl

theorem andThen_eq_next {o : Host.Outcome State Fault Refusal} {k : State → Host.Outcome State Fault Refusal} {t : State} :
    andThen o k = .next t ↔ ∃ u, o = .next u ∧ k u = .next t := by
  cases o <;> simp [andThen]

/-! ### The parameters -/

/-- Counting in parts is counting at once, within any width. -/
theorem Params.count_count_add (p : Params) (a b : Nat) : p.count (p.count a + b) = p.count (a + b) := by
  unfold Params.count
  split <;> simp

@[simp] theorem Params.count_count (p : Params) (a : Nat) : p.count (p.count a) = p.count a := by
  simpa using p.count_count_add a 0

theorem Params.count_unbounded {p : Params} (h : p.cycleWidth = none) (a : Nat) : p.count a = a := by
  rw [Params.count, h]

/-! ### Reads of memory -/

theorem State.memByte_congr {u s : State} (h : u.mem = s.mem) (x : Word) : u.memByte x = s.memByte x := by
  rw [State.memByte, State.memByte, h]

/-- What a read answers depends on the host's ready answers and on memory alone. -/
theorem State.peek_congr {u s : State} (h : u.mem = s.mem) (ha : u.answers = s.answers) (x : Word) : u.peek x = s.peek x := by
  simp only [State.peek, ha, State.memByte_congr h]

/-- Where the host has no answer ready, a read answers what memory holds. -/
theorem State.peek_of_nil {s : State} (h : s.answers = []) (x : Word) : s.peek x = s.memByte x := by
  rw [State.peek, h]

theorem State.peek_sawRead_of_nil {s : State} (h : s.answers = []) (x y : Word) : (s.sawRead x).peek y = s.peek y := by
  rw [State.peek_of_nil h, State.peek_of_nil (by simp [h]), State.memByte_congr (State.sawRead_mem s x)]

@[simp] theorem State.memByte_sawRead (s : State) (x y : Word) : (s.sawRead x).memByte y = s.memByte y := rfl

/-- A store leaves every other address alone. -/
theorem State.memByte_writeByte_ne (s : State) {x y : Word} (v : Byte) (h : x ≠ y) :
    (s.writeByte x v).memByte y = s.memByte y :=
  Memory.read_write_ne _ _ _ _ fun e => h (BitVec.eq_of_toNat_eq e)

/-- After a store memory holds the value stored, in a canonical memory. -/
theorem State.memByte_writeByte_eq {s : State} (h : s.mem.wf = true) (x : Word) (v : Byte) : (s.writeByte x v).memByte x = v :=
  Memory.read_write_eq h _ _

/-- A store keeps the canonical form. -/
theorem State.wf_writeByte {s : State} (h : s.mem.wf = true) (x : Word) (v : Byte) : (s.writeByte x v).mem.wf = true :=
  Memory.wf_write h x v

/-! ### Composed operations as one record each -/

theorem State.sawRead16_eq (s : State) (x : Word) :
    s.sawRead16 x =
      { s with
        answers := s.answers.tail.tail
        bus := .read (x + 1) ((s.sawRead x).peek (x + 1)) :: .read x (s.peek x) :: s.bus } := rfl

theorem State.writeWord_eq (s : State) (x v : Word) :
    s.writeWord x v =
      { s with
        mem := Memory.write (Memory.write s.mem x.toNat (loByte v)) (x + 1).toNat (hiByte v)
        bus := .write (x + 1) (hiByte v) :: .write x (loByte v) :: s.bus } := by
  simp only [State.writeWord, State.writeByte]

theorem State.push16_eq (s : State) (v : Word) :
    s.push16 v =
      { s with
        sp := s.sp - 2
        mem := Memory.write (Memory.write s.mem (s.sp - 1).toNat (hiByte v)) (s.sp - 2).toNat (loByte v)
        bus := .write (s.sp - 2) (loByte v) :: .write (s.sp - 1) (hiByte v) :: s.bus } := by
  simp only [State.push16, State.writeByte]

theorem State.afterPop_eq (s : State) :
    s.afterPop =
      { s with
        sp := s.sp + 2
        answers := s.answers.tail.tail
        bus := .read (s.sp + 1) ((s.sawRead s.sp).peek (s.sp + 1)) :: .read s.sp (s.peek s.sp) :: s.bus } := rfl

theorem State.swapTop_eq (s : State) (v : Word) :
    s.swapTop v =
      { s with
        mem := Memory.write (Memory.write s.mem (s.sp + 1).toNat (hiByte v)) s.sp.toNat (loByte v)
        answers := s.answers.tail.tail
        bus := .write s.sp (loByte v) :: .write (s.sp + 1) (hiByte v) :: .read (s.sp + 1) ((s.sawRead s.sp).peek (s.sp + 1))
          :: .read s.sp (s.peek s.sp) :: s.bus } := by
  simp only [State.swapTop, State.sawRead16_eq, State.writeByte]

theorem State.callTo_eq (s : State) (x : Word) : s.callTo x = { s.push16 s.pc with pc := x } := by
  simp only [State.callTo, State.jump]

theorem State.returnPc_eq (s : State) : s.returnPc = { s.afterPop with pc := s.popValue } := by
  simp only [State.returnPc, State.jump]

/-- A port read takes the oldest ready answer, or the next free one. -/
theorem State.sawPortIn_eq (s : State) (p : Byte) :
    s.sawPortIn p =
      { s with
        inputs := s.inputs.tail
        portReads := if s.inputs = [] then s.portReads + 1 else s.portReads
        bus := .portIn p (s.portValue p) :: s.bus } := by
  unfold State.sawPortIn State.portValue
  split <;> simp_all

/-- The increment of R counts in the low seven bits and keeps bit 7. -/
theorem State.incR_seven (s : State) :
    s.incR.r.toNat % 128 = (s.r.toNat + 1) % 128 ∧ s.incR.r.getLsbD 7 = s.r.getLsbD 7 := by
  simp only [State.incR_r]
  generalize s.r = r
  revert r
  decide

/-! ### Fetching -/

theorem State.fetchByte_eq (s : State) : s.fetchByte = { s.sawRead s.pc with pc := s.pc + 1 } := rfl

theorem State.hangOn_eq (s : State) : s.hangOn = { s.sawRead s.pc with pc := s.pc + 1, hung := true } := rfl

/-- What the coming reads answer depends on the host's ready answers and on memory alone. -/
theorem State.bytesAt_congr {u s : State} (h : u.mem = s.mem) (ha : u.answers = s.answers) (n : Nat) (x : Word) :
    u.bytesAt n x = s.bytesAt n x := by
  induction n generalizing u s x with
  | zero => rfl
  | succ n ih => rw [State.bytesAt, State.bytesAt, State.peek_congr h ha,
      ih (u := u.sawRead x) (s := s.sawRead x) (by simpa using h) (by simp [ha])]

theorem State.fetchReads_congr {u s : State} (h : u.mem = s.mem) (ha : u.answers = s.answers) (n : Nat) (x : Word) :
    u.fetchReads n x = s.fetchReads n x := by
  induction n generalizing u s x with
  | zero => rfl
  | succ n ih => rw [State.fetchReads, State.fetchReads, State.peek_congr h ha,
      ih (u := u.sawRead x) (s := s.sawRead x) (by simpa using h) (by simp [ha])]

theorem State.prefixRun_congr {u s : State} (h : u.mem = s.mem) (ha : u.answers = s.answers) (n : Nat) (x : Word) :
    u.prefixRun n x = s.prefixRun n x := by
  induction n generalizing u s x with
  | zero => rfl
  | succ n ih => rw [State.prefixRun, State.prefixRun, State.peek_congr h ha,
      ih (u := u.sawRead x) (s := s.sawRead x) (by simpa using h) (by simp [ha])]

/-- The instruction at PC depends on PC, on what the coming reads answer and on `ED_IO_C` alone. -/
theorem State.instrAt_congr {u s : State} (h : u.mem = s.mem) (ha : u.answers = s.answers) (hp : u.pc = s.pc)
    (hq : u.params = s.params) : u.instrAt = s.instrAt := by
  rw [State.instrAt, State.instrAt, State.window, State.window, State.prefixBound, State.prefixBound, hp, hq, ha,
    State.prefixRun_congr h ha, State.bytesAt_congr h ha]

/-- What fetching `n` bytes leaves: PC past them, their answers used up, and one read of each, in address order. -/
theorem State.fetch_eq (n : Nat) (s : State) :
    s.fetch n =
      { s with
        pc := s.pc + BitVec.ofNat 16 n
        answers := s.answers.drop n
        bus := s.fetchReads n s.pc ++ s.bus } := by
  induction n generalizing s with
  | zero => simp [State.fetch, State.fetchReads]
  | succ n ih =>
    have hpc : s.pc + 1 + BitVec.ofNat 16 n = s.pc + BitVec.ofNat 16 (n + 1) := by
      rw [BitVec.add_assoc, Nat.add_comm n 1, BitVec.ofNat_add]
      rfl
    rw [State.fetch, ih, State.fetchReads_congr (u := s.fetchByte) (s := s.sawRead s.pc) rfl rfl]
    simp [State.fetchByte_eq, State.sawRead, State.fetchReads]
    exact hpc

/-- Where the host has no answer ready, the coming reads answer bytes that memory holds. -/
theorem State.memByte_of_mem_bytesAt {s : State} (h : s.answers = []) {n : Nat} {x : Word} {b : Byte} (hb : b ∈ s.bytesAt n x) :
    ∃ y, b = s.memByte y := by
  induction n generalizing s x with
  | zero => cases hb
  | succ n ih =>
    rcases List.mem_cons.1 hb with rfl | hb
    · exact ⟨x, State.peek_of_nil h x⟩
    · exact ih (s := s.sawRead x) (by simp [h]) hb

@[simp] theorem State.length_bytesAt (s : State) (n : Nat) (x : Word) : (s.bytesAt n x).length = n := by
  induction n generalizing s x with
  | zero => rfl
  | succ n ih => simp [State.bytesAt, ih]

/-! ### Instructions -/

/-- Ignored index prefixes change no effect (R352). -/
theorem runComplete_core (i : Instr) (s : State) : runComplete i s = runComplete i.core s := by
  induction i with
  | fallback xy i ih => exact ih
  | _ => rfl

/-- Behind the ignored prefixes there is no further one. -/
theorem core_ne_fallback (i : Instr) (xy : Idx) (j : Instr) : i.core ≠ .fallback xy j := by
  induction i with
  | fallback _ i ih => exact ih
  | _ => intro h; cases h

/-- `exec` of a complete instruction is its entry in the five tables. -/
theorem exec_eq_runComplete {i : Instr} (h : i.isPrefixRow = false) (s : State) : exec i s = runComplete i s := by
  cases i <;> first | rfl | simp [Instr.isPrefixRow] at h

/-! ### The step -/

/-- Everything a step can be: one more fetch of a hang, a halted no-op, one instruction, or the first fetch of a hang. -/
theorem step_cases (s : State) :
    (s.hung = true ∧ step s = .next s.hangOn) ∨
    (s.hung = false ∧ s.halted = true ∧ step s = interruptEval s.incR.haltedNoOp) ∨
    (s.hung = false ∧ s.halted = false ∧ ∃ i, s.instrAt = some i ∧ step s = andThen (runInstr i s.incR) interruptEval) ∨
    (s.hung = false ∧ s.halted = false ∧ s.instrAt = none ∧ step s = .next s.incR.hangOn) := by
  have hi : s.incR.instrAt = s.instrAt := State.instrAt_congr rfl rfl rfl rfl
  cases hu : s.hung <;> cases hh : s.halted <;> cases ho : s.instrAt <;> simp [step, stepOnce, executeOne, hi, hu, hh, ho]

end Sys2Proof.Machine
end

