-- ==== Sys2Proof/Laws/PerInstr.lean ====
section
/-! SUPPORT. The statements made for every instruction, one lemma per constructor. Length: an instruction has one to four
bytes, and a fallback one more than the instruction after it (30_encoding.md R118). -/

namespace Sys2Proof.Laws

/-- The length of an instruction (R118). -/
def Length.Statement : Instr → Prop
  | .fallback xy i => (Instr.fallback xy i).size = i.size + 1
  | i => 1 ≤ i.size ∧ i.size ≤ 4

theorem Length.ldRR (dst : Reg8) (src : Reg8) : Length.Statement (.ldRR dst src) := ⟨Nat.le_of_ble_eq_true rfl, Nat.le_of_ble_eq_true rfl⟩
theorem Length.ldRN (r : Reg8) (n : Byte) : Length.Statement (.ldRN r n) := ⟨Nat.le_of_ble_eq_true rfl, Nat.le_of_ble_eq_true rfl⟩
theorem Length.ldRM (r : Reg8) : Length.Statement (.ldRM r) := ⟨Nat.le_of_ble_eq_true rfl, Nat.le_of_ble_eq_true rfl⟩
theorem Length.ldMR (r : Reg8) : Length.Statement (.ldMR r) := ⟨Nat.le_of_ble_eq_true rfl, Nat.le_of_ble_eq_true rfl⟩
theorem Length.ldMN (n : Byte) : Length.Statement (.ldMN n) := ⟨Nat.le_of_ble_eq_true rfl, Nat.le_of_ble_eq_true rfl⟩
theorem Length.ldABc : Length.Statement (.ldABc) := ⟨by decide, by decide⟩
theorem Length.ldADe : Length.Statement (.ldADe) := ⟨by decide, by decide⟩
theorem Length.ldBcA : Length.Statement (.ldBcA) := ⟨by decide, by decide⟩
theorem Length.ldDeA : Length.Statement (.ldDeA) := ⟨by decide, by decide⟩
theorem Length.ldAAbs (nn : Word) : Length.Statement (.ldAAbs nn) := ⟨Nat.le_of_ble_eq_true rfl, Nat.le_of_ble_eq_true rfl⟩
theorem Length.ldAbsA (nn : Word) : Length.Statement (.ldAbsA nn) := ⟨Nat.le_of_ble_eq_true rfl, Nat.le_of_ble_eq_true rfl⟩
theorem Length.ldRpImm (p : RPair) (nn : Word) : Length.Statement (.ldRpImm p nn) := ⟨Nat.le_of_ble_eq_true rfl, Nat.le_of_ble_eq_true rfl⟩
theorem Length.ldHlAbs (nn : Word) : Length.Statement (.ldHlAbs nn) := ⟨Nat.le_of_ble_eq_true rfl, Nat.le_of_ble_eq_true rfl⟩
theorem Length.ldAbsHl (nn : Word) : Length.Statement (.ldAbsHl nn) := ⟨Nat.le_of_ble_eq_true rfl, Nat.le_of_ble_eq_true rfl⟩
theorem Length.ldSpHl : Length.Statement (.ldSpHl) := ⟨by decide, by decide⟩
theorem Length.push (p : RPair2) : Length.Statement (.push p) := ⟨Nat.le_of_ble_eq_true rfl, Nat.le_of_ble_eq_true rfl⟩
theorem Length.pop (p : RPair2) : Length.Statement (.pop p) := ⟨Nat.le_of_ble_eq_true rfl, Nat.le_of_ble_eq_true rfl⟩
theorem Length.exDeHl : Length.Statement (.exDeHl) := ⟨by decide, by decide⟩
theorem Length.exAf : Length.Statement (.exAf) := ⟨by decide, by decide⟩
theorem Length.exx : Length.Statement (.exx) := ⟨by decide, by decide⟩
theorem Length.exSpHl : Length.Statement (.exSpHl) := ⟨by decide, by decide⟩
theorem Length.addR (r : Reg8) : Length.Statement (.addR r) := ⟨Nat.le_of_ble_eq_true rfl, Nat.le_of_ble_eq_true rfl⟩
theorem Length.addM : Length.Statement (.addM) := ⟨by decide, by decide⟩
theorem Length.addN (n : Byte) : Length.Statement (.addN n) := ⟨Nat.le_of_ble_eq_true rfl, Nat.le_of_ble_eq_true rfl⟩
theorem Length.adcR (r : Reg8) : Length.Statement (.adcR r) := ⟨Nat.le_of_ble_eq_true rfl, Nat.le_of_ble_eq_true rfl⟩
theorem Length.adcM : Length.Statement (.adcM) := ⟨by decide, by decide⟩
theorem Length.adcN (n : Byte) : Length.Statement (.adcN n) := ⟨Nat.le_of_ble_eq_true rfl, Nat.le_of_ble_eq_true rfl⟩
theorem Length.subR (r : Reg8) : Length.Statement (.subR r) := ⟨Nat.le_of_ble_eq_true rfl, Nat.le_of_ble_eq_true rfl⟩
theorem Length.subM : Length.Statement (.subM) := ⟨by decide, by decide⟩
theorem Length.subN (n : Byte) : Length.Statement (.subN n) := ⟨Nat.le_of_ble_eq_true rfl, Nat.le_of_ble_eq_true rfl⟩
theorem Length.sbcR (r : Reg8) : Length.Statement (.sbcR r) := ⟨Nat.le_of_ble_eq_true rfl, Nat.le_of_ble_eq_true rfl⟩
theorem Length.sbcM : Length.Statement (.sbcM) := ⟨by decide, by decide⟩
theorem Length.sbcN (n : Byte) : Length.Statement (.sbcN n) := ⟨Nat.le_of_ble_eq_true rfl, Nat.le_of_ble_eq_true rfl⟩
theorem Length.andR (r : Reg8) : Length.Statement (.andR r) := ⟨Nat.le_of_ble_eq_true rfl, Nat.le_of_ble_eq_true rfl⟩
theorem Length.andM : Length.Statement (.andM) := ⟨by decide, by decide⟩
theorem Length.andN (n : Byte) : Length.Statement (.andN n) := ⟨Nat.le_of_ble_eq_true rfl, Nat.le_of_ble_eq_true rfl⟩
theorem Length.xorR (r : Reg8) : Length.Statement (.xorR r) := ⟨Nat.le_of_ble_eq_true rfl, Nat.le_of_ble_eq_true rfl⟩
theorem Length.xorM : Length.Statement (.xorM) := ⟨by decide, by decide⟩
theorem Length.xorN (n : Byte) : Length.Statement (.xorN n) := ⟨Nat.le_of_ble_eq_true rfl, Nat.le_of_ble_eq_true rfl⟩
theorem Length.orR (r : Reg8) : Length.Statement (.orR r) := ⟨Nat.le_of_ble_eq_true rfl, Nat.le_of_ble_eq_true rfl⟩
theorem Length.orM : Length.Statement (.orM) := ⟨by decide, by decide⟩
theorem Length.orN (n : Byte) : Length.Statement (.orN n) := ⟨Nat.le_of_ble_eq_true rfl, Nat.le_of_ble_eq_true rfl⟩
theorem Length.cpR (r : Reg8) : Length.Statement (.cpR r) := ⟨Nat.le_of_ble_eq_true rfl, Nat.le_of_ble_eq_true rfl⟩
theorem Length.cpM : Length.Statement (.cpM) := ⟨by decide, by decide⟩
theorem Length.cpN (n : Byte) : Length.Statement (.cpN n) := ⟨Nat.le_of_ble_eq_true rfl, Nat.le_of_ble_eq_true rfl⟩
theorem Length.incR (r : Reg8) : Length.Statement (.incR r) := ⟨Nat.le_of_ble_eq_true rfl, Nat.le_of_ble_eq_true rfl⟩
theorem Length.incM : Length.Statement (.incM) := ⟨by decide, by decide⟩
theorem Length.decR (r : Reg8) : Length.Statement (.decR r) := ⟨Nat.le_of_ble_eq_true rfl, Nat.le_of_ble_eq_true rfl⟩
theorem Length.decM : Length.Statement (.decM) := ⟨by decide, by decide⟩
theorem Length.incRp (p : RPair) : Length.Statement (.incRp p) := ⟨Nat.le_of_ble_eq_true rfl, Nat.le_of_ble_eq_true rfl⟩
theorem Length.decRp (p : RPair) : Length.Statement (.decRp p) := ⟨Nat.le_of_ble_eq_true rfl, Nat.le_of_ble_eq_true rfl⟩
theorem Length.addHlRp (p : RPair) : Length.Statement (.addHlRp p) := ⟨Nat.le_of_ble_eq_true rfl, Nat.le_of_ble_eq_true rfl⟩
theorem Length.daa : Length.Statement (.daa) := ⟨by decide, by decide⟩
theorem Length.cpl : Length.Statement (.cpl) := ⟨by decide, by decide⟩
theorem Length.scf : Length.Statement (.scf) := ⟨by decide, by decide⟩
theorem Length.ccf : Length.Statement (.ccf) := ⟨by decide, by decide⟩
theorem Length.rlca : Length.Statement (.rlca) := ⟨by decide, by decide⟩
theorem Length.rrca : Length.Statement (.rrca) := ⟨by decide, by decide⟩
theorem Length.rla : Length.Statement (.rla) := ⟨by decide, by decide⟩
theorem Length.rra : Length.Statement (.rra) := ⟨by decide, by decide⟩
theorem Length.nop : Length.Statement (.nop) := ⟨by decide, by decide⟩
theorem Length.jp (nn : Word) : Length.Statement (.jp nn) := ⟨Nat.le_of_ble_eq_true rfl, Nat.le_of_ble_eq_true rfl⟩
theorem Length.jpCc (cc : Cond) (nn : Word) : Length.Statement (.jpCc cc nn) := ⟨Nat.le_of_ble_eq_true rfl, Nat.le_of_ble_eq_true rfl⟩
theorem Length.jr (e : Byte) : Length.Statement (.jr e) := ⟨Nat.le_of_ble_eq_true rfl, Nat.le_of_ble_eq_true rfl⟩
theorem Length.jrCc (cc : Cond) (e : Byte) : Length.Statement (.jrCc cc e) := ⟨Nat.le_of_ble_eq_true rfl, Nat.le_of_ble_eq_true rfl⟩
theorem Length.djnz (e : Byte) : Length.Statement (.djnz e) := ⟨Nat.le_of_ble_eq_true rfl, Nat.le_of_ble_eq_true rfl⟩
theorem Length.jpHl : Length.Statement (.jpHl) := ⟨by decide, by decide⟩
theorem Length.call (nn : Word) : Length.Statement (.call nn) := ⟨Nat.le_of_ble_eq_true rfl, Nat.le_of_ble_eq_true rfl⟩
theorem Length.callCc (cc : Cond) (nn : Word) : Length.Statement (.callCc cc nn) := ⟨Nat.le_of_ble_eq_true rfl, Nat.le_of_ble_eq_true rfl⟩
theorem Length.ret : Length.Statement (.ret) := ⟨by decide, by decide⟩
theorem Length.retCc (cc : Cond) : Length.Statement (.retCc cc) := ⟨Nat.le_of_ble_eq_true rfl, Nat.le_of_ble_eq_true rfl⟩
theorem Length.rst (p : Byte) : Length.Statement (.rst p) := ⟨Nat.le_of_ble_eq_true rfl, Nat.le_of_ble_eq_true rfl⟩
theorem Length.outNA (n : Byte) : Length.Statement (.outNA n) := ⟨Nat.le_of_ble_eq_true rfl, Nat.le_of_ble_eq_true rfl⟩
theorem Length.inAN (n : Byte) : Length.Statement (.inAN n) := ⟨Nat.le_of_ble_eq_true rfl, Nat.le_of_ble_eq_true rfl⟩
theorem Length.halt : Length.Statement (.halt) := ⟨by decide, by decide⟩
theorem Length.di : Length.Statement (.di) := ⟨by decide, by decide⟩
theorem Length.ei : Length.Statement (.ei) := ⟨by decide, by decide⟩
theorem Length.prefixCB : Length.Statement (.prefixCB) := ⟨by decide, by decide⟩
theorem Length.prefixED : Length.Statement (.prefixED) := ⟨by decide, by decide⟩
theorem Length.prefixXY (xy : Idx) : Length.Statement (.prefixXY xy) := ⟨Nat.le_of_ble_eq_true rfl, Nat.le_of_ble_eq_true rfl⟩
theorem Length.rlcR (r : Reg8) : Length.Statement (.rlcR r) := ⟨Nat.le_of_ble_eq_true rfl, Nat.le_of_ble_eq_true rfl⟩
theorem Length.rlcM : Length.Statement (.rlcM) := ⟨by decide, by decide⟩
theorem Length.rrcR (r : Reg8) : Length.Statement (.rrcR r) := ⟨Nat.le_of_ble_eq_true rfl, Nat.le_of_ble_eq_true rfl⟩
theorem Length.rrcM : Length.Statement (.rrcM) := ⟨by decide, by decide⟩
theorem Length.rlR (r : Reg8) : Length.Statement (.rlR r) := ⟨Nat.le_of_ble_eq_true rfl, Nat.le_of_ble_eq_true rfl⟩
theorem Length.rlM : Length.Statement (.rlM) := ⟨by decide, by decide⟩
theorem Length.rrR (r : Reg8) : Length.Statement (.rrR r) := ⟨Nat.le_of_ble_eq_true rfl, Nat.le_of_ble_eq_true rfl⟩
theorem Length.rrM : Length.Statement (.rrM) := ⟨by decide, by decide⟩
theorem Length.slaR (r : Reg8) : Length.Statement (.slaR r) := ⟨Nat.le_of_ble_eq_true rfl, Nat.le_of_ble_eq_true rfl⟩
theorem Length.slaM : Length.Statement (.slaM) := ⟨by decide, by decide⟩
theorem Length.sraR (r : Reg8) : Length.Statement (.sraR r) := ⟨Nat.le_of_ble_eq_true rfl, Nat.le_of_ble_eq_true rfl⟩
theorem Length.sraM : Length.Statement (.sraM) := ⟨by decide, by decide⟩
theorem Length.sllR (r : Reg8) : Length.Statement (.sllR r) := ⟨Nat.le_of_ble_eq_true rfl, Nat.le_of_ble_eq_true rfl⟩
theorem Length.sllM : Length.Statement (.sllM) := ⟨by decide, by decide⟩
theorem Length.srlR (r : Reg8) : Length.Statement (.srlR r) := ⟨Nat.le_of_ble_eq_true rfl, Nat.le_of_ble_eq_true rfl⟩
theorem Length.srlM : Length.Statement (.srlM) := ⟨by decide, by decide⟩
theorem Length.bitR (b : Fin 8) (r : Reg8) : Length.Statement (.bitR b r) := ⟨Nat.le_of_ble_eq_true rfl, Nat.le_of_ble_eq_true rfl⟩
theorem Length.bitM (b : Fin 8) : Length.Statement (.bitM b) := ⟨Nat.le_of_ble_eq_true rfl, Nat.le_of_ble_eq_true rfl⟩
theorem Length.resR (b : Fin 8) (r : Reg8) : Length.Statement (.resR b r) := ⟨Nat.le_of_ble_eq_true rfl, Nat.le_of_ble_eq_true rfl⟩
theorem Length.resM (b : Fin 8) : Length.Statement (.resM b) := ⟨Nat.le_of_ble_eq_true rfl, Nat.le_of_ble_eq_true rfl⟩
theorem Length.setR (b : Fin 8) (r : Reg8) : Length.Statement (.setR b r) := ⟨Nat.le_of_ble_eq_true rfl, Nat.le_of_ble_eq_true rfl⟩
theorem Length.setM (b : Fin 8) : Length.Statement (.setM b) := ⟨Nat.le_of_ble_eq_true rfl, Nat.le_of_ble_eq_true rfl⟩
theorem Length.inRC (r : Reg8) : Length.Statement (.inRC r) := ⟨Nat.le_of_ble_eq_true rfl, Nat.le_of_ble_eq_true rfl⟩
theorem Length.outCR (r : Reg8) : Length.Statement (.outCR r) := ⟨Nat.le_of_ble_eq_true rfl, Nat.le_of_ble_eq_true rfl⟩
theorem Length.sbcHlRp (p : RPair) : Length.Statement (.sbcHlRp p) := ⟨Nat.le_of_ble_eq_true rfl, Nat.le_of_ble_eq_true rfl⟩
theorem Length.adcHlRp (p : RPair) : Length.Statement (.adcHlRp p) := ⟨Nat.le_of_ble_eq_true rfl, Nat.le_of_ble_eq_true rfl⟩
theorem Length.ldAbsRp (nn : Word) (p : RPair) : Length.Statement (.ldAbsRp nn p) := ⟨Nat.le_of_ble_eq_true rfl, Nat.le_of_ble_eq_true rfl⟩
theorem Length.ldRpAbs (p : RPair) (nn : Word) : Length.Statement (.ldRpAbs p nn) := ⟨Nat.le_of_ble_eq_true rfl, Nat.le_of_ble_eq_true rfl⟩
theorem Length.neg : Length.Statement (.neg) := ⟨by decide, by decide⟩
theorem Length.retn : Length.Statement (.retn) := ⟨by decide, by decide⟩
theorem Length.reti : Length.Statement (.reti) := ⟨by decide, by decide⟩
theorem Length.im0 : Length.Statement (.im0) := ⟨by decide, by decide⟩
theorem Length.im1 : Length.Statement (.im1) := ⟨by decide, by decide⟩
theorem Length.im2 : Length.Statement (.im2) := ⟨by decide, by decide⟩
theorem Length.ldIA : Length.Statement (.ldIA) := ⟨by decide, by decide⟩
theorem Length.ldRA : Length.Statement (.ldRA) := ⟨by decide, by decide⟩
theorem Length.ldAI : Length.Statement (.ldAI) := ⟨by decide, by decide⟩
theorem Length.ldAR : Length.Statement (.ldAR) := ⟨by decide, by decide⟩
theorem Length.rld : Length.Statement (.rld) := ⟨by decide, by decide⟩
theorem Length.rrd : Length.Statement (.rrd) := ⟨by decide, by decide⟩
theorem Length.ldi : Length.Statement (.ldi) := ⟨by decide, by decide⟩
theorem Length.ldd : Length.Statement (.ldd) := ⟨by decide, by decide⟩
theorem Length.ldir : Length.Statement (.ldir) := ⟨by decide, by decide⟩
theorem Length.lddr : Length.Statement (.lddr) := ⟨by decide, by decide⟩
theorem Length.cpi : Length.Statement (.cpi) := ⟨by decide, by decide⟩
theorem Length.cpd : Length.Statement (.cpd) := ⟨by decide, by decide⟩
theorem Length.cpir : Length.Statement (.cpir) := ⟨by decide, by decide⟩
theorem Length.cpdr : Length.Statement (.cpdr) := ⟨by decide, by decide⟩
theorem Length.ini : Length.Statement (.ini) := ⟨by decide, by decide⟩
theorem Length.ind : Length.Statement (.ind) := ⟨by decide, by decide⟩
theorem Length.inir : Length.Statement (.inir) := ⟨by decide, by decide⟩
theorem Length.indr : Length.Statement (.indr) := ⟨by decide, by decide⟩
theorem Length.outi : Length.Statement (.outi) := ⟨by decide, by decide⟩
theorem Length.outd : Length.Statement (.outd) := ⟨by decide, by decide⟩
theorem Length.otir : Length.Statement (.otir) := ⟨by decide, by decide⟩
theorem Length.otdr : Length.Statement (.otdr) := ⟨by decide, by decide⟩
theorem Length.unknownEd (op : Byte) : Length.Statement (.unknownEd op) := ⟨Nat.le_of_ble_eq_true rfl, Nat.le_of_ble_eq_true rfl⟩
theorem Length.ldXyImm (xy : Idx) (nn : Word) : Length.Statement (.ldXyImm xy nn) := ⟨Nat.le_of_ble_eq_true rfl, Nat.le_of_ble_eq_true rfl⟩
theorem Length.ldAbsXy (xy : Idx) (nn : Word) : Length.Statement (.ldAbsXy xy nn) := ⟨Nat.le_of_ble_eq_true rfl, Nat.le_of_ble_eq_true rfl⟩
theorem Length.ldXyAbs (xy : Idx) (nn : Word) : Length.Statement (.ldXyAbs xy nn) := ⟨Nat.le_of_ble_eq_true rfl, Nat.le_of_ble_eq_true rfl⟩
theorem Length.incXy (xy : Idx) : Length.Statement (.incXy xy) := ⟨Nat.le_of_ble_eq_true rfl, Nat.le_of_ble_eq_true rfl⟩
theorem Length.decXy (xy : Idx) : Length.Statement (.decXy xy) := ⟨Nat.le_of_ble_eq_true rfl, Nat.le_of_ble_eq_true rfl⟩
theorem Length.addXyRp (xy : Idx) (p : XPair) : Length.Statement (.addXyRp xy p) := ⟨Nat.le_of_ble_eq_true rfl, Nat.le_of_ble_eq_true rfl⟩
theorem Length.incXyH (xy : Idx) : Length.Statement (.incXyH xy) := ⟨Nat.le_of_ble_eq_true rfl, Nat.le_of_ble_eq_true rfl⟩
theorem Length.decXyH (xy : Idx) : Length.Statement (.decXyH xy) := ⟨Nat.le_of_ble_eq_true rfl, Nat.le_of_ble_eq_true rfl⟩
theorem Length.ldXyHN (xy : Idx) (n : Byte) : Length.Statement (.ldXyHN xy n) := ⟨Nat.le_of_ble_eq_true rfl, Nat.le_of_ble_eq_true rfl⟩
theorem Length.incXyL (xy : Idx) : Length.Statement (.incXyL xy) := ⟨Nat.le_of_ble_eq_true rfl, Nat.le_of_ble_eq_true rfl⟩
theorem Length.decXyL (xy : Idx) : Length.Statement (.decXyL xy) := ⟨Nat.le_of_ble_eq_true rfl, Nat.le_of_ble_eq_true rfl⟩
theorem Length.ldXyLN (xy : Idx) (n : Byte) : Length.Statement (.ldXyLN xy n) := ⟨Nat.le_of_ble_eq_true rfl, Nat.le_of_ble_eq_true rfl⟩
theorem Length.incXyD (xy : Idx) (d : Byte) : Length.Statement (.incXyD xy d) := ⟨Nat.le_of_ble_eq_true rfl, Nat.le_of_ble_eq_true rfl⟩
theorem Length.decXyD (xy : Idx) (d : Byte) : Length.Statement (.decXyD xy d) := ⟨Nat.le_of_ble_eq_true rfl, Nat.le_of_ble_eq_true rfl⟩
theorem Length.ldXyDN (xy : Idx) (d : Byte) (n : Byte) : Length.Statement (.ldXyDN xy d n) := ⟨Nat.le_of_ble_eq_true rfl, Nat.le_of_ble_eq_true rfl⟩
theorem Length.aluXyH (xy : Idx) (op : AluOp) : Length.Statement (.aluXyH xy op) := ⟨Nat.le_of_ble_eq_true rfl, Nat.le_of_ble_eq_true rfl⟩
theorem Length.aluXyL (xy : Idx) (op : AluOp) : Length.Statement (.aluXyL xy op) := ⟨Nat.le_of_ble_eq_true rfl, Nat.le_of_ble_eq_true rfl⟩
theorem Length.aluXyD (xy : Idx) (op : AluOp) (d : Byte) : Length.Statement (.aluXyD xy op d) := ⟨Nat.le_of_ble_eq_true rfl, Nat.le_of_ble_eq_true rfl⟩
theorem Length.ldRXyD (xy : Idx) (r : Reg8) (d : Byte) : Length.Statement (.ldRXyD xy r d) := ⟨Nat.le_of_ble_eq_true rfl, Nat.le_of_ble_eq_true rfl⟩
theorem Length.ldXyDR (xy : Idx) (d : Byte) (r : Reg8) : Length.Statement (.ldXyDR xy d r) := ⟨Nat.le_of_ble_eq_true rfl, Nat.le_of_ble_eq_true rfl⟩
theorem Length.ldHalf (xy : Idx) (dst : XReg) (src : XReg) : Length.Statement (.ldHalf xy dst src) := ⟨Nat.le_of_ble_eq_true rfl, Nat.le_of_ble_eq_true rfl⟩
theorem Length.popXy (xy : Idx) : Length.Statement (.popXy xy) := ⟨Nat.le_of_ble_eq_true rfl, Nat.le_of_ble_eq_true rfl⟩
theorem Length.pushXy (xy : Idx) : Length.Statement (.pushXy xy) := ⟨Nat.le_of_ble_eq_true rfl, Nat.le_of_ble_eq_true rfl⟩
theorem Length.exSpXy (xy : Idx) : Length.Statement (.exSpXy xy) := ⟨Nat.le_of_ble_eq_true rfl, Nat.le_of_ble_eq_true rfl⟩
theorem Length.jpXy (xy : Idx) : Length.Statement (.jpXy xy) := ⟨Nat.le_of_ble_eq_true rfl, Nat.le_of_ble_eq_true rfl⟩
theorem Length.ldSpXy (xy : Idx) : Length.Statement (.ldSpXy xy) := ⟨Nat.le_of_ble_eq_true rfl, Nat.le_of_ble_eq_true rfl⟩
theorem Length.prefixXyCB (xy : Idx) : Length.Statement (.prefixXyCB xy) := ⟨Nat.le_of_ble_eq_true rfl, Nat.le_of_ble_eq_true rfl⟩
theorem Length.fallback (xy : Idx) (i : Instr) : Length.Statement (.fallback xy i) := rfl
theorem Length.rlcXyD (xy : Idx) (d : Byte) (z : Fin 8) : Length.Statement (.rlcXyD xy d z) := ⟨Nat.le_of_ble_eq_true rfl, Nat.le_of_ble_eq_true rfl⟩
theorem Length.rrcXyD (xy : Idx) (d : Byte) (z : Fin 8) : Length.Statement (.rrcXyD xy d z) := ⟨Nat.le_of_ble_eq_true rfl, Nat.le_of_ble_eq_true rfl⟩
theorem Length.rlXyD (xy : Idx) (d : Byte) (z : Fin 8) : Length.Statement (.rlXyD xy d z) := ⟨Nat.le_of_ble_eq_true rfl, Nat.le_of_ble_eq_true rfl⟩
theorem Length.rrXyD (xy : Idx) (d : Byte) (z : Fin 8) : Length.Statement (.rrXyD xy d z) := ⟨Nat.le_of_ble_eq_true rfl, Nat.le_of_ble_eq_true rfl⟩
theorem Length.slaXyD (xy : Idx) (d : Byte) (z : Fin 8) : Length.Statement (.slaXyD xy d z) := ⟨Nat.le_of_ble_eq_true rfl, Nat.le_of_ble_eq_true rfl⟩
theorem Length.sraXyD (xy : Idx) (d : Byte) (z : Fin 8) : Length.Statement (.sraXyD xy d z) := ⟨Nat.le_of_ble_eq_true rfl, Nat.le_of_ble_eq_true rfl⟩
theorem Length.sllXyD (xy : Idx) (d : Byte) (z : Fin 8) : Length.Statement (.sllXyD xy d z) := ⟨Nat.le_of_ble_eq_true rfl, Nat.le_of_ble_eq_true rfl⟩
theorem Length.srlXyD (xy : Idx) (d : Byte) (z : Fin 8) : Length.Statement (.srlXyD xy d z) := ⟨Nat.le_of_ble_eq_true rfl, Nat.le_of_ble_eq_true rfl⟩
theorem Length.bitXyD (xy : Idx) (d : Byte) (b : Fin 8) (z : Fin 8) : Length.Statement (.bitXyD xy d b z) := ⟨Nat.le_of_ble_eq_true rfl, Nat.le_of_ble_eq_true rfl⟩
theorem Length.resXyD (xy : Idx) (d : Byte) (b : Fin 8) (z : Fin 8) : Length.Statement (.resXyD xy d b z) := ⟨Nat.le_of_ble_eq_true rfl, Nat.le_of_ble_eq_true rfl⟩
theorem Length.setXyD (xy : Idx) (d : Byte) (b : Fin 8) (z : Fin 8) : Length.Statement (.setXyD xy d b z) := ⟨Nat.le_of_ble_eq_true rfl, Nat.le_of_ble_eq_true rfl⟩

end Sys2Proof.Laws
end

