-- ==== Sys2Proof/Tests/Slice0.lean ====
section
/-! SUPPORT. Tests by hand from the spec: decoding words written out from 30_encoding.md, the well-formedness smoke, single
steps with the examples and vectors of the spec, and a witness for every obligation with hypotheses. The base state is that of
95_test_vectors.md section 3. -/

namespace Sys2Proof.Tests

open Sys2Proof Sys2Proof.Machine

/-! ### Helpers -/

/-- The base state of 95_test_vectors.md section 3. -/
def start : State := { State.reset with a := 0, f := Flags.unpack 0, sp := 0xF000, pc := 0x0100 }

/-- One step of a state with code at PC ends in a next state that passes the check. -/
def shows (s : State) (code : List Byte) (check : State → Bool) : Bool :=
  match step (s.place code s.pc) with
  | .next t => check t
  | .fault _ => false
  | .refused _ => false

/-- Each list of bytes decodes, with nothing left, to the instruction beside it. -/
def decodes : List (List Byte × Instr) → Bool
  | [] => true
  | (bs, i) :: rest =>
    (match decode true bs with
      | .ok (j, []) => i == j
      | _ => false) && decodes rest

/-! ### Decoding (R100 to R117) -/

theorem test_decode_load :
    decodes
      [([0x41], .ldRR .b .c), ([0x7C], .ldRR .a .h), ([0x2E, 0x99], .ldRN .l 0x99), ([0x56], .ldRM .d), ([0x73], .ldMR .e),
        ([0x36, 0xA5], .ldMN 0xA5), ([0x0A], .ldABc), ([0x1A], .ldADe), ([0x02], .ldBcA), ([0x12], .ldDeA),
        ([0x3A, 0x34, 0x12], .ldAAbs 0x1234), ([0x32, 0x34, 0x12], .ldAbsA 0x1234), ([0x31, 0x34, 0x12], .ldRpImm .sp 0x1234),
        ([0x2A, 0x00, 0x50], .ldHlAbs 0x5000), ([0x22, 0x00, 0x50], .ldAbsHl 0x5000), ([0xF9], .ldSpHl), ([0xF5], .push .af),
        ([0xC1], .pop .bc), ([0xEB], .exDeHl), ([0x08], .exAf), ([0xD9], .exx), ([0xE3], .exSpHl)] = true := by decide

theorem test_decode_alu :
    decodes
      [([0x80], .addR .b), ([0x86], .addM), ([0xC6, 0x01], .addN 1), ([0x89], .adcR .c), ([0x8E], .adcM), ([0xCE, 2], .adcN 2),
        ([0x92], .subR .d), ([0x96], .subM), ([0xD6, 3], .subN 3), ([0x9B], .sbcR .e), ([0x9E], .sbcM), ([0xDE, 4], .sbcN 4),
        ([0xA4], .andR .h), ([0xA6], .andM), ([0xE6, 5], .andN 5), ([0xAD], .xorR .l), ([0xAE], .xorM), ([0xEE, 6], .xorN 6),
        ([0xB7], .orR .a), ([0xB6], .orM), ([0xF6, 7], .orN 7), ([0xB8], .cpR .b), ([0xBE], .cpM), ([0xFE, 8], .cpN 8)]
      = true := by decide

theorem test_decode_count_and_accumulator :
    decodes
      [([0x3C], .incR .a), ([0x34], .incM), ([0x05], .decR .b), ([0x35], .decM), ([0x33], .incRp .sp), ([0x2B], .decRp .hl),
        ([0x19], .addHlRp .de), ([0x27], .daa), ([0x2F], .cpl), ([0x37], .scf), ([0x3F], .ccf), ([0x07], .rlca), ([0x0F], .rrca),
        ([0x17], .rla), ([0x1F], .rra)] = true := by decide

theorem test_decode_control :
    decodes
      [([0x00], .nop), ([0xC3, 0x00, 0x80], .jp 0x8000), ([0xE2, 0x00, 0x80], .jpCc .po 0x8000), ([0x18, 0xFE], .jr 0xFE),
        ([0x38, 0x10], .jrCc .c 0x10), ([0x10, 0xFE], .djnz 0xFE), ([0xE9], .jpHl), ([0xCD, 0x34, 0x12], .call 0x1234),
        ([0xFC, 0x00, 0x30], .callCc .m 0x3000), ([0xC9], .ret), ([0xE8], .retCc .pe), ([0xEF], .rst 0x28),
        ([0xD3, 0x10], .outNA 0x10), ([0xDB, 0x00], .inAN 0x00), ([0x76], .halt), ([0xF3], .di), ([0xFB], .ei)]
      = true := by decide

theorem test_decode_bits :
    decodes
      [([0xCB, 0x00], .rlcR .b), ([0xCB, 0x06], .rlcM), ([0xCB, 0x09], .rrcR .c), ([0xCB, 0x0E], .rrcM), ([0xCB, 0x12], .rlR .d),
        ([0xCB, 0x16], .rlM), ([0xCB, 0x1B], .rrR .e), ([0xCB, 0x1E], .rrM), ([0xCB, 0x24], .slaR .h), ([0xCB, 0x26], .slaM),
        ([0xCB, 0x2D], .sraR .l), ([0xCB, 0x2E], .sraM), ([0xCB, 0x37], .sllR .a), ([0xCB, 0x36], .sllM), ([0xCB, 0x38], .srlR .b),
        ([0xCB, 0x3E], .srlM), ([0xCB, 0x7C], .bitR 7 .h), ([0xCB, 0x5E], .bitM 3), ([0xCB, 0xBF], .resR 7 .a),
        ([0xCB, 0x86], .resM 0), ([0xCB, 0xD1], .setR 2 .c), ([0xCB, 0xF6], .setM 6)] = true := by decide

theorem test_decode_extended :
    decodes
      [([0xED, 0x58], .inRC .e), ([0xED, 0x79], .outCR .a), ([0xED, 0x52], .sbcHlRp .de), ([0xED, 0x7A], .adcHlRp .sp),
        ([0xED, 0x73, 0x00, 0xA0], .ldAbsRp 0xA000 .sp), ([0xED, 0x4B, 0x00, 0xA0], .ldRpAbs .bc 0xA000), ([0xED, 0x44], .neg),
        ([0xED, 0x45], .retn), ([0xED, 0x4D], .reti), ([0xED, 0x46], .im0), ([0xED, 0x56], .im1), ([0xED, 0x5E], .im2),
        ([0xED, 0x47], .ldIA), ([0xED, 0x4F], .ldRA), ([0xED, 0x57], .ldAI), ([0xED, 0x5F], .ldAR), ([0xED, 0x6F], .rld),
        ([0xED, 0x67], .rrd)] = true := by decide

theorem test_decode_block :
    decodes
      [([0xED, 0xA0], .ldi), ([0xED, 0xA8], .ldd), ([0xED, 0xB0], .ldir), ([0xED, 0xB8], .lddr), ([0xED, 0xA1], .cpi),
        ([0xED, 0xA9], .cpd), ([0xED, 0xB1], .cpir), ([0xED, 0xB9], .cpdr), ([0xED, 0xA2], .ini), ([0xED, 0xAA], .ind),
        ([0xED, 0xB2], .inir), ([0xED, 0xBA], .indr), ([0xED, 0xA3], .outi), ([0xED, 0xAB], .outd), ([0xED, 0xB3], .otir),
        ([0xED, 0xBB], .otdr), ([0xED, 0x4C], .unknownEd 0x4C), ([0xED, 0x70], .unknownEd 0x70)] = true := by decide

theorem test_decode_index :
    decodes
      [([0xDD, 0x21, 0x34, 0x12], .ldXyImm .ix 0x1234), ([0xFD, 0x22, 0x00, 0x90], .ldAbsXy .iy 0x9000),
        ([0xDD, 0x2A, 0x00, 0x90], .ldXyAbs .ix 0x9000), ([0xDD, 0x23], .incXy .ix), ([0xFD, 0x2B], .decXy .iy),
        ([0xDD, 0x29], .addXyRp .ix .xy), ([0xFD, 0x39], .addXyRp .iy .sp), ([0xDD, 0x24], .incXyH .ix), ([0xFD, 0x25], .decXyH .iy),
        ([0xDD, 0x26, 0xAB], .ldXyHN .ix 0xAB), ([0xDD, 0x2C], .incXyL .ix), ([0xFD, 0x2D], .decXyL .iy),
        ([0xFD, 0x2E, 0xCD], .ldXyLN .iy 0xCD), ([0xDD, 0x34, 0xFF], .incXyD .ix 0xFF), ([0xFD, 0x35, 0x02], .decXyD .iy 2),
        ([0xDD, 0x36, 0x10, 0xAA], .ldXyDN .ix 0x10 0xAA), ([0xDD, 0x84], .aluXyH .ix .add), ([0xFD, 0x95], .aluXyL .iy .sub),
        ([0xDD, 0xBE, 0x05], .aluXyD .ix .cp 5), ([0xDD, 0x66, 0xFE], .ldRXyD .ix .h 0xFE), ([0xFD, 0x75, 0x01], .ldXyDR .iy 1 .l),
        ([0xDD, 0x65], .ldHalf .ix .xyh .xyl), ([0xDD, 0x7D], .ldHalf .ix .a .xyl), ([0xDD, 0xE1], .popXy .ix),
        ([0xFD, 0xE5], .pushXy .iy), ([0xDD, 0xE3], .exSpXy .ix), ([0xFD, 0xE9], .jpXy .iy), ([0xDD, 0xF9], .ldSpXy .ix),
        ([0xDD, 0x41], .fallback .ix (.ldRR .b .c)), ([0xDD, 0xFD, 0x23], .fallback .ix (.incXy .iy))] = true := by decide

theorem test_decode_displaced_bits :
    decodes
      [([0xDD, 0xCB, 0x03, 0x00], .rlcXyD .ix 3 0), ([0xFD, 0xCB, 0x03, 0x0E], .rrcXyD .iy 3 6),
        ([0xDD, 0xCB, 0x80, 0x16], .rlXyD .ix 0x80 6), ([0xDD, 0xCB, 0x7F, 0x1E], .rrXyD .ix 0x7F 6),
        ([0xFD, 0xCB, 0x01, 0x21], .slaXyD .iy 1 1), ([0xDD, 0xCB, 0x01, 0x2E], .sraXyD .ix 1 6),
        ([0xDD, 0xCB, 0x01, 0x36], .sllXyD .ix 1 6), ([0xDD, 0xCB, 0x01, 0x3F], .srlXyD .ix 1 7),
        ([0xFD, 0xCB, 0x05, 0x5E], .bitXyD .iy 5 3 6), ([0xDD, 0xCB, 0xFF, 0x86], .resXyD .ix 0xFF 0 6),
        ([0xFD, 0xCB, 0x10, 0xFE], .setXyD .iy 0x10 7 6)] = true := by decide

theorem test_decode_prefix_rows :
    decodeTableWord 8 0xCB = some .prefixCB ∧ decodeTableWord 8 0xED = some .prefixED ∧
      decodeTableWord 8 0xDD = some (.prefixXY .ix) ∧ decodeTableWord 16 0xFDCB = some (.prefixXyCB .iy) := by decide

/-- R110, D15: without `ED_IO_C` the C-addressed port forms are unknown entries. -/
theorem test_decode_without_ed_io_c :
    decode false [0xED, 0x58] = .ok (.unknownEd 0x58, []) ∧ decode false [0xED, 0x79] = .ok (.unknownEd 0x79, []) ∧
      decode false [0xED, 0x52] = .ok (.sbcHlRp .de, []) := ⟨rfl, rfl, rfl⟩

theorem test_decode_needs_more_bytes :
    decode true [0xCD, 0x34] = .error .needsMoreBytes ∧ decode true [0xDD, 0xDD] = .error .needsMoreBytes ∧
      decode true [0xDD, 0xCB, 0x01] = .error .needsMoreBytes := ⟨rfl, rfl, rfl⟩

theorem test_encode_words :
    encode (.ldAbsRp 0xA000 .sp) = [0xED, 0x73, 0x00, 0xA0] ∧ encode (.jrCc .c 0x10) = [0x38, 0x10] ∧
      encode (.rst 0x38) = [0xFF] ∧ encode (.bitXyD .iy 5 3 6) = [0xFD, 0xCB, 0x05, 0x5E] ∧
      encode (.fallback .iy .exDeHl) = [0xFD, 0xEB] := by decide

/-! ### Well-formedness: each check refuses an ill-formed term -/

theorem test_wf_relative_condition : (Instr.jrCc .po 0).wf true = false ∧ (Instr.jrCc .c 0).wf true = true := by decide

theorem test_wf_restart_target : (Instr.rst 1).wf true = false ∧ (Instr.rst 0x40).wf true = false ∧ (Instr.rst 0x38).wf true = true := by decide

theorem test_wf_unknown_extended : (Instr.unknownEd 0x44).wf true = false ∧ (Instr.unknownEd 0x4C).wf true = true := by decide

theorem test_wf_port_forms :
    (Instr.inRC .b).wf false = false ∧ (Instr.outCR .a).wf false = false ∧ (Instr.unknownEd 0x40).wf false = true ∧
      (Instr.inRC .b).wf true = true ∧ (Instr.outCR .a).wf true = true ∧ (Instr.unknownEd 0x40).wf true = false := by decide

theorem test_wf_index_half : (Instr.ldHalf .ix .b .c).wf true = false ∧ (Instr.ldHalf .ix .b .xyl).wf true = true := by decide

theorem test_wf_fallback :
    (Instr.fallback .ix .jpHl).wf true = false ∧ (Instr.fallback .ix .prefixCB).wf true = false ∧
      (Instr.fallback .ix (.rst 1)).wf true = false ∧ (Instr.fallback .ix .exDeHl).wf true = true := by decide

/-! ### Single steps: loads, stack, exchanges (examples of 41_base_load.md) -/

/-- R200's example, and what a step adds to R and the cycles (R504, R611). -/
theorem test_ld_r_r :
    shows { start with b := 0x12 } [0x78] (fun t => t.a == 0x12 && t.pc == 0x0101 && t.r == 1 && t.cycles == 4) = true := by decide

theorem test_ld_r_n : shows start [0x3E, 0x05] (fun t => t.a == 5 && t.pc == 0x0102 && t.f.pack == 0) = true := by decide

/-- R202's example, and its corner case: `LD H,(HL)` reads with the old HL. -/
theorem test_ld_r_hl :
    shows (({ start with h := 0x40 } : State).place [0x99] 0x4000) [0x46] (fun t => t.b == 0x99) = true ∧
      shows (({ start with h := 0x40 } : State).place [0x99] 0x4000) [0x66] (fun t => t.h == 0x99 && t.l == 0) = true := by decide

theorem test_ld_hl_r :
    shows { start with h := 0x40, a := 0x5A } [0x77] (fun t => t.peek 0x4000 == 0x5A && t.cycles == 7) = true ∧
      shows { start with h := 0x40 } [0x36, 0x7F] (fun t => t.peek 0x4000 == 0x7F && t.cycles == 10) = true := by decide

theorem test_ld_a_pairs :
    shows (({ start with b := 0x12, c := 0x34 } : State).place [0x01] 0x1234) [0x0A] (fun t => t.a == 0x01) = true ∧
      shows (({ start with d := 0x80 } : State).place [0x11] 0x8000) [0x1A] (fun t => t.a == 0x11) = true ∧
      shows { start with b := 0x12, c := 0x34, a := 0x77 } [0x02] (fun t => t.peek 0x1234 == 0x77) = true ∧
      shows { start with d := 0x90, a := 0x33 } [0x12] (fun t => t.peek 0x9000 == 0x33) = true := by decide

theorem test_ld_a_absolute :
    shows (start.place [0xAB] 0x5000) [0x3A, 0x00, 0x50] (fun t => t.a == 0xAB && t.addrReg == 0) = true ∧
      shows { start with a := 0x01 } [0x32, 0x00, 0x50] (fun t => t.peek 0x5000 == 0x01) = true := by decide

theorem test_ld_rp_nn : shows start [0x21, 0x34, 0x12] (fun t => t.h == 0x12 && t.l == 0x34) = true := by decide

/-- R212's corner case: the second byte of a word at FFFF is at 0000. -/
theorem test_ld_hl_absolute :
    shows ((start.place [0x34] 0xFFFF).place [0x12] 0x0000) [0x2A, 0xFF, 0xFF] (fun t => t.h == 0x12 && t.l == 0x34) = true ∧
      shows { start with h := 0x12, l := 0x34 } [0x22, 0xFF, 0xFF]
        (fun t => t.peek 0xFFFF == 0x34 && t.peek 0x0000 == 0x12) = true := by decide

theorem test_ld_sp_hl : shows { start with h := 0x4F, l := 0xF0 } [0xF9] (fun t => t.sp == 0x4FF0) = true := by decide

/-- R215's corner case: SP wraps. -/
theorem test_push :
    shows { start with sp := 0xFFFF, b := 0x12, c := 0x34 } [0xC5]
        (fun t => t.peek 0xFFFE == 0x12 && t.peek 0xFFFD == 0x34 && t.sp == 0xFFFD) = true ∧
      shows { start with sp := 0x0001, a := 0x77, f := Flags.unpack 0xD7 } [0xF5]
        (fun t => t.peek 0x0000 == 0x77 && t.peek 0xFFFF == 0xD7 && t.sp == 0xFFFF) = true := by decide

theorem test_pop :
    shows (({ start with sp := 0xFFFD } : State).place [0x34, 0x12] 0xFFFD) [0xD1]
        (fun t => t.d == 0x12 && t.e == 0x34 && t.sp == 0xFFFF) = true ∧
      shows (start.place [0xD7, 0x00] 0xF000) [0xF1]
        (fun t => t.a == 0 && t.f == ⟨true, true, false, true, false, true, true, true⟩) = true := by decide

theorem test_exchanges :
    shows { start with d := 0x11, e := 0x11, h := 0x22, l := 0x22 } [0xEB]
        (fun t => t.de == 0x2222 && t.hl == 0x1111) = true ∧
      shows { start with a := 0x01, a' := 0xFF, f' := 0xFF } [0x08]
        (fun t => t.a == 0xFF && t.f.pack == 0xFF && t.a' == 0x01 && t.f' == 0x00) = true ∧
      shows { start with l := 0x01, l' := 0x02, a' := 0x55 } [0xD9]
        (fun t => t.hl == 0x0002 && t.l' == 0x01 && t.a' == 0x55 && t.a == 0) = true := by decide

theorem test_ex_sp_hl :
    shows (({ start with sp := 0x8000, h := 0x12, l := 0x34 } : State).place [0x78, 0x56] 0x8000) [0xE3]
      (fun t => t.hl == 0x5678 && t.peek 0x8000 == 0x34 && t.peek 0x8001 == 0x12 && t.sp == 0x8000) = true := by decide

/-- The order of bus calls of `EX (SP),HL` (R66). -/
theorem test_ex_sp_hl_bus_order :
    shows (({ start with sp := 0x8000, h := 0x12, l := 0x34 } : State).place [0x78, 0x56] 0x8000) [0xE3]
      (fun t => t.bus ==
        [.write 0x8000 0x34, .write 0x8001 0x12, .read 0x8001 0x56, .read 0x8000 0x78, .read 0x0100 0xE3]) = true := by decide

/-! ### Arithmetic, logic, accumulator (examples of 42_base_arith.md) -/

theorem test_add :
    shows { start with a := 0x0F, b := 0x01 } [0x80] (fun t => t.a == 0x10 && t.f.pack == 0x10) = true ∧
      shows { start with a := 0x80 } [0xC6, 0x80] (fun t => t.a == 0 && t.f.pack == 0x45) = true := by decide

theorem test_adc :
    shows { start with a := 0xFF, f := Flags.unpack 0x01 } [0xCE, 0x00] (fun t => t.a == 0 && t.f.pack == 0x51) = true := by decide

theorem test_sub :
    shows { start with a := 0x80 } [0xD6, 0x01] (fun t => t.a == 0x7F && t.f.pack == 0x3E) = true ∧
      shows { start with a := 0x80 } [0x97] (fun t => t.a == 0 && t.f.pack == 0x42) = true := by decide

theorem test_sbc :
    shows { start with f := Flags.unpack 0x01 } [0x98] (fun t => t.a == 0xFF && t.f.pack == 0xBB) = true := by decide

theorem test_logic :
    shows { start with a := 0xF0 } [0xE6, 0x3C] (fun t => t.a == 0x30 && t.f.pack == 0x34) = true ∧
      shows { start with a := 0x5A, f := Flags.unpack 0xFF } [0xAF] (fun t => t.a == 0 && t.f.pack == 0x44) = true ∧
      shows { start with a := 0x12 } [0xF6, 0x84] (fun t => t.a == 0x96 && t.f.pack == 0x84) = true := by decide

/-- R258's example: fY and fX come from the operand. -/
theorem test_cp : shows { start with a := 0x10 } [0xFE, 0x28] (fun t => t.a == 0x10 && t.f.pack == 0xBB) = true := by decide

/-- The (HL) form of R251 and R258. -/
theorem test_alu_memory :
    shows (({ start with a := 0x10, h := 0x40 } : State).place [0x28] 0x4000) [0xBE]
      (fun t => t.a == 0x10 && t.f.pack == 0xBB && t.cycles == 7) = true := by decide

theorem test_inc_dec :
    shows { start with a := 0x05 } [0x3C] (fun t => t.a == 0x06 && t.f.pack == 0) = true ∧
      shows { start with a := 0xFF, f := Flags.unpack 0x01 } [0x3C] (fun t => t.a == 0 && t.f.pack == 0x51) = true ∧
      shows { start with b := 0x01 } [0x05] (fun t => t.b == 0 && t.f.pack == 0x42) = true ∧
      shows { start with b := 0x80 } [0x05] (fun t => t.b == 0x7F && t.f.pack == 0x3E) = true := by decide

theorem test_inc_dec_memory :
    shows (({ start with h := 0x40 } : State).place [0xFF] 0x4000) [0x34]
        (fun t => t.peek 0x4000 == 0 && t.f.z && t.f.h && t.cycles == 11) = true ∧
      shows (({ start with h := 0x40 } : State).place [0x10] 0x4000) [0x35]
        (fun t => t.peek 0x4000 == 0x0F && t.f.h && t.f.n) = true := by decide

theorem test_inc_dec_pair :
    shows { start with b := 0xFF, c := 0xFF } [0x03] (fun t => t.bc == 0 && t.f.pack == 0) = true ∧
      shows { start with sp := 0x0000 } [0x3B] (fun t => t.sp == 0xFFFF) = true := by decide

theorem test_add_hl :
    shows { start with h := 0x0F, l := 0xFF, c := 0x01, f := Flags.unpack 0xC4 } [0x09]
      (fun t => t.hl == 0x1000 && t.f.pack == 0xD4 && t.addrReg == 0x1000) = true := by decide

theorem test_daa :
    shows { start with a := 0x3C } [0x27] (fun t => t.a == 0x42 && t.f.pack == 0x14) = true ∧
      shows { start with a := 0x9A } [0x27] (fun t => t.a == 0 && t.f.z && t.f.c && t.f.h) = true ∧
      shows { start with a := 0x0F, f := Flags.unpack 0x12 } [0x27] (fun t => t.a == 0x09 && t.f.h == false && t.f.n) = true := by
  decide

theorem test_cpl_scf_ccf :
    shows { start with a := 0x55 } [0x2F] (fun t => t.a == 0xAA && t.f.pack == 0x3A) = true ∧
      shows { start with a := 0x28 } [0x37] (fun t => t.f.pack == 0x29) = true ∧
      shows { start with f := Flags.unpack 0x01 } [0x3F] (fun t => t.f.pack == 0x10) = true := by decide

theorem test_accumulator_rotates :
    shows { start with a := 0x81 } [0x07] (fun t => t.a == 0x03 && t.f.c) = true ∧
      shows { start with a := 0x01 } [0x0F] (fun t => t.a == 0x80 && t.f.c && t.f.s == false) = true ∧
      shows { start with a := 0x80 } [0x17] (fun t => t.a == 0 && t.f.c && t.f.z == false) = true ∧
      shows { start with a := 0x01, f := Flags.unpack 0x01 } [0x1F] (fun t => t.a == 0x80 && t.f.c) = true := by decide

/-! ### Control transfer, ports, halt, enables (examples of 43_base_control.md) -/

theorem test_nop : shows start [0x00] (fun t => t.pc == 0x0101 && t.cycles == 4 && t.r == 1) = true := by decide

theorem test_jp :
    shows start [0xC3, 0x00, 0x80] (fun t => t.pc == 0x8000) = true ∧
      shows { start with f := Flags.unpack 0x40 } [0xC2, 0x00, 0x80] (fun t => t.pc == 0x0103 && t.cycles == 10) = true ∧
      shows { start with f := Flags.unpack 0x40 } [0xCA, 0x00, 0x80] (fun t => t.pc == 0x8000 && t.cycles == 10) = true ∧
      shows { start with h := 0x43, l := 0x21 } [0xE9] (fun t => t.pc == 0x4321) = true := by decide

/-- R303's and R304's examples; the target wraps. -/
theorem test_jr :
    shows start [0x18, 0x05] (fun t => t.pc == 0x0107 && t.cycles == 12) = true ∧
      shows { start with pc := 0xFFFE } [0x18, 0x05] (fun t => t.pc == 0x0005) = true ∧
      shows start [0x30, 0x10] (fun t => t.pc == 0x0112 && t.cycles == 12) = true ∧
      shows start [0x38, 0x10] (fun t => t.pc == 0x0102 && t.cycles == 7) = true := by decide

theorem test_djnz :
    shows { start with b := 2 } [0x10, 0xFE] (fun t => t.b == 1 && t.pc == 0x0100 && t.cycles == 13) = true ∧
      shows { start with b := 1 } [0x10, 0xFE] (fun t => t.b == 0 && t.pc == 0x0102 && t.cycles == 8) = true ∧
      shows { start with b := 0 } [0x10, 0xFE] (fun t => t.b == 0xFF && t.pc == 0x0100) = true := by decide

theorem test_call :
    shows { start with sp := 0xFFFF, pc := 0x1000 } [0xCD, 0x34, 0x12]
        (fun t => t.peek 0xFFFE == 0x10 && t.peek 0xFFFD == 0x03 && t.sp == 0xFFFD && t.pc == 0x1234) = true ∧
      shows { start with sp := 0x8000, pc := 0x2000, f := Flags.unpack 0x80 } [0xFC, 0x00, 0x30]
        (fun t => t.peek 0x7FFF == 0x20 && t.peek 0x7FFE == 0x03 && t.pc == 0x3000 && t.cycles == 17) = true := by decide

theorem test_ret :
    shows (({ start with sp := 0xFFFD } : State).place [0x03, 0x10] 0xFFFD) [0xC9] (fun t => t.pc == 0x1003 && t.sp == 0xFFFF)
        = true ∧
      shows (({ start with sp := 0xFFFD } : State).place [0x03, 0x10] 0xFFFD) [0xE0]
        (fun t => t.pc == 0x1003 && t.sp == 0xFFFF && t.cycles == 11) = true ∧
      shows (({ start with sp := 0xFFFD } : State).place [0x03, 0x10] 0xFFFD) [0xE8]
        (fun t => t.pc == 0x0101 && t.sp == 0xFFFD && t.cycles == 5) = true := by decide

theorem test_rst :
    shows { start with sp := 0xFFFF, pc := 0x0123 } [0xFF]
      (fun t => t.peek 0xFFFE == 0x01 && t.peek 0xFFFD == 0x24 && t.pc == 0x0038) = true := by decide

theorem test_ports :
    shows { start with a := 0x5A } [0xD3, 0x10] (fun t => t.bus.head? == some (.portOut 0x10 0x5A)) = true ∧
      shows { start with inputs := [0x3C] } [0xDB, 0x00] (fun t => t.a == 0x3C && t.inputs == [] && t.f.pack == 0) = true := by
  decide

/-- R314's example, and a halted step (R520). -/
theorem test_halt :
    shows start [0x76] (fun t => t.halted && t.pc == 0x0101) = true ∧
      shows { start with halted := true } [0x3C] (fun t => t.halted && t.pc == 0x0100 && t.a == 0 && t.cycles == 4 && t.bus == [])
        = true := by decide

/-- R315, and R316's example: the delay is 2 at the end of the EI step. -/
theorem test_di_ei :
    shows { start with iff1 := true, iff2 := true, eiDelay := 2 } [0xF3]
        (fun t => t.iff1 == false && t.iff2 == false && t.eiDelay == 0) = true ∧
      shows start [0xFB] (fun t => t.iff1 == false && t.eiDelay == 2) = true ∧
      shows { start with eiDelay := 1, intPending := true, im := 1 } [0x00]
        (fun t => t.pc == 0x0038 && t.iff1 == false && t.cycles == 17) = true := by decide

/-! ### The CB and displaced-bit tables (examples of 45_bit_ops.md) -/

theorem test_rotates_left :
    shows { start with b := 0x81 } [0xCB, 0x00] (fun t => t.b == 0x03 && t.f.pack == 0x05 && t.cycles == 8 && t.r == 1) = true ∧
      shows { start with d := 0x80, f := Flags.unpack 1 } [0xCB, 0x12] (fun t => t.d == 0x01 && t.f.pack == 0x01) = true ∧
      shows { start with h := 0x80 } [0xCB, 0x24] (fun t => t.h == 0 && t.f.pack == 0x45) = true ∧
      shows { start with a := 0x80 } [0xCB, 0x37] (fun t => t.a == 0x01 && t.f.pack == 0x01) = true := by decide

theorem test_rotates_right :
    shows { start with c := 0x01 } [0xCB, 0x09] (fun t => t.c == 0x80 && t.f.pack == 0x81) = true ∧
      shows { start with e := 0x01, f := Flags.unpack 1 } [0xCB, 0x1B] (fun t => t.e == 0x80 && t.f.pack == 0x81) = true ∧
      shows { start with l := 0x81 } [0xCB, 0x2D] (fun t => t.l == 0xC0 && t.f.pack == 0x85) = true ∧
      shows { start with b := 0x80 } [0xCB, 0x38] (fun t => t.b == 0x40 && t.f.pack == 0x00) = true := by decide

/-- R409's two examples: fY and fX of the memory form come from addr_reg. -/
theorem test_bit :
    shows { start with h := 0x80 } [0xCB, 0x7C] (fun t => t.f.pack == 0x90) = true ∧
      shows (({ start with h := 0x40, addrReg := 0x28FF } : State).place [0xFE] 0x4000) [0xCB, 0x46]
        (fun t => t.f.pack == 0x7C && t.cycles == 12 && t.addrReg == 0x28FF) = true := by decide

theorem test_res_set :
    shows { start with a := 0xFF } [0xCB, 0xBF] (fun t => t.a == 0x7F && t.f.pack == 0) = true ∧
      shows { start with h := 0x50 } [0xCB, 0xC6] (fun t => t.peek 0x5000 == 0x01 && t.cycles == 15) = true := by decide

/-- R413's example: B is not written although z names it. -/
theorem test_displaced_rotate :
    shows (({ start with ix := 0x4000 } : State).place [0x81] 0x4003) [0xDD, 0xCB, 0x03, 0x00]
      (fun t => t.peek 0x4003 == 0x03 && t.b == 0 && t.f.pack == 0x05 && t.addrReg == 0x4003 && t.cycles == 23 && t.r == 1)
      = true := by decide

theorem test_displaced_bit :
    shows { start with iy := 0x2800 } [0xFD, 0xCB, 0x05, 0x5E] (fun t => t.f.pack == 0x7C && t.addrReg == 0x2805 && t.cycles == 20)
      = true := by decide

theorem test_displaced_res_set :
    shows (({ start with ix := 0x4000 } : State).place [0xFF] 0x3FFF) [0xDD, 0xCB, 0xFF, 0x86] (fun t => t.peek 0x3FFF == 0xFE)
        = true ∧
      shows { start with iy := 0x5000 } [0xFD, 0xCB, 0x10, 0xFE] (fun t => t.peek 0x5010 == 0x80) = true := by decide

/-! ### The index table (examples of 44_index.md) -/

theorem test_index_word_loads :
    shows start [0xFD, 0x21, 0x00, 0x80] (fun t => t.iy == 0x8000 && t.cycles == 14) = true ∧
      shows { start with ix := 0xBEEF } [0xDD, 0x22, 0x00, 0x90] (fun t => t.peek 0x9000 == 0xEF && t.peek 0x9001 == 0xBE) = true ∧
      shows (start.place [0xEF, 0xBE] 0x9000) [0xFD, 0x2A, 0x00, 0x90] (fun t => t.iy == 0xBEEF) = true ∧
      shows { start with ix := 0xF000 } [0xDD, 0xF9] (fun t => t.sp == 0xF000) = true := by decide

theorem test_index_count_and_add :
    shows { start with ix := 0x00FF } [0xDD, 0x23] (fun t => t.ix == 0x0100) = true ∧
      shows start [0xFD, 0x2B] (fun t => t.iy == 0xFFFF) = true ∧
      shows { start with ix := 0x7FFF, c := 0x01 } [0xDD, 0x09]
        (fun t => t.ix == 0x8000 && t.f.pack == 0x10 && t.addrReg == 0x8000) = true := by decide

theorem test_index_halves :
    shows { start with ix := 0x7F00 } [0xDD, 0x24] (fun t => t.ix == 0x8000 && t.f.pack == 0x94) = true ∧
      shows { start with iy := 0x0155 } [0xFD, 0x25] (fun t => t.iy == 0x0055 && t.f.pack == 0x42) = true ∧
      shows { start with ix := 0x12FF } [0xDD, 0x2C] (fun t => t.ix == 0x1200 && t.f.pack == 0x50) = true ∧
      shows { start with iy := 0x1200 } [0xFD, 0x2D] (fun t => t.iy == 0x12FF && t.f.pack == 0xBA) = true := by decide

theorem test_index_half_loads :
    shows { start with ix := 0x1234 } [0xDD, 0x26, 0xAB] (fun t => t.ix == 0xAB34) = true ∧
      shows { start with iy := 0x1234 } [0xFD, 0x2E, 0xCD] (fun t => t.iy == 0x12CD) = true ∧
      shows { start with ix := 0x12AB } [0xDD, 0x7D] (fun t => t.a == 0xAB) = true ∧
      shows { start with ix := 0x12AB, a := 0x55 } [0xDD, 0x67] (fun t => t.ix == 0x55AB) = true := by decide

theorem test_index_displaced_loads :
    shows { start with ix := 0x4000 } [0xDD, 0x36, 0x10, 0xAA] (fun t => t.peek 0x4010 == 0xAA && t.addrReg == 0x4010) = true ∧
      shows (({ start with ix := 0x3000 } : State).place [0x99] 0x2FFE) [0xDD, 0x66, 0xFE]
        (fun t => t.h == 0x99 && t.ix == 0x3000 && t.addrReg == 0x2FFE) = true ∧
      shows { start with iy := 0x4000, l := 0x42 } [0xFD, 0x75, 0x01] (fun t => t.peek 0x4001 == 0x42) = true := by decide

theorem test_index_displaced_count :
    shows (({ start with ix := 0x4000 } : State).place [0x7F] 0x3FFF) [0xDD, 0x34, 0xFF]
        (fun t => t.peek 0x3FFF == 0x80 && t.f.pack == 0x94 && t.addrReg == 0x3FFF) = true ∧
      shows (({ start with iy := 0x5000 } : State).place [0x01] 0x5002) [0xFD, 0x35, 0x02]
        (fun t => t.peek 0x5002 == 0 && t.f.pack == 0x42) = true := by decide

theorem test_index_alu :
    shows (({ start with a := 0x10, ix := 0x2000 } : State).place [0x28] 0x2005) [0xDD, 0xBE, 0x05]
        (fun t => t.a == 0x10 && t.f.pack == 0xBB && t.addrReg == 0x2005) = true ∧
      shows { start with a := 0x01, ix := 0x0F00 } [0xDD, 0x84] (fun t => t.a == 0x10 && t.f.pack == 0x10) = true ∧
      shows { start with a := 0x01, iy := 0x0001 } [0xFD, 0x95] (fun t => t.a == 0 && t.f.pack == 0x42) = true := by decide

theorem test_index_stack :
    shows (({ start with sp := 0xFFFD } : State).place [0x34, 0x12] 0xFFFD) [0xDD, 0xE1] (fun t => t.ix == 0x1234 && t.sp == 0xFFFF)
        = true ∧
      shows { start with sp := 0xFFFF, iy := 0xA55A } [0xFD, 0xE5] (fun t => t.peek 0xFFFE == 0xA5 && t.peek 0xFFFD == 0x5A) = true ∧
      shows (({ start with sp := 0x8000, ix := 0x1234 } : State).place [0x78, 0x56] 0x8000) [0xDD, 0xE3]
        (fun t => t.ix == 0x5678 && t.peek 0x8000 == 0x34 && t.peek 0x8001 == 0x12) = true ∧
      shows { start with iy := 0x4000 } [0xFD, 0xE9] (fun t => t.pc == 0x4000) = true := by decide

/-- R352: a fallback on the real registers, and a chain of ignored prefixes, each costing 4 and counting R once in all. -/
theorem test_fallback :
    shows { start with c := 0x12 } [0xDD, 0x41] (fun t => t.b == 0x12 && t.cycles == 8 && t.r == 1 && t.pc == 0x0102) = true ∧
      shows start [0xDD, 0xDD, 0x21, 0x34, 0x12] (fun t => t.ix == 0x1234 && t.cycles == 18 && t.r == 1 && t.pc == 0x0105) = true := by
  decide

/-- A prefix row alone goes on with the bytes at PC (R317 to R319, R378). -/
theorem test_prefix_rows :
    (match exec .prefixCB ({ start with b := 0x81 } : State) with | .next t => t.b == 0x03 && t.pc == 0x0101 | _ => false) = true ∧
      (match exec .prefixED (start.place [0x56] 0x0100) with | .next t => t.im == 1 && t.cycles == 8 | _ => false) = true ∧
      (match exec (.prefixXY .ix) (start.place [0x23] 0x0100) with | .next t => t.ix == 1 | _ => false) = true ∧
      (match exec (.prefixXyCB .iy) (start.place [0x05, 0xFE] 0x0100) with | .next t => t.peek 5 == 0x80 | _ => false) = true := by
  decide

/-! ### The extended table (examples of 46_extended.md) -/

theorem test_port_c :
    shows { start with c := 0x10, inputs := [0x00], f := Flags.unpack 0x01 } [0xED, 0x40] (fun t => t.b == 0 && t.f.pack == 0x45)
        = true ∧
      shows { start with c := 0x20, a := 0x77 } [0xED, 0x79] (fun t => t.bus.head? == some (.portOut 0x20 0x77)) = true := by decide

theorem test_sbc_adc_hl :
    shows { start with c := 0x01 } [0xED, 0x42] (fun t => t.hl == 0xFFFF && t.f.pack == 0xBB && t.addrReg == 1) = true ∧
      shows { start with h := 0x7F, l := 0xFF, f := Flags.unpack 0x01 } [0xED, 0x4A]
        (fun t => t.hl == 0x8000 && t.f.pack == 0x94 && t.addrReg == 0x8000) = true := by decide

theorem test_ld_pair_absolute :
    shows { start with sp := 0xFFFD } [0xED, 0x73, 0x00, 0xA0] (fun t => t.peek 0xA000 == 0xFD && t.peek 0xA001 == 0xFF) = true ∧
      shows (start.place [0x00, 0x80] 0xA000) [0xED, 0x7B, 0x00, 0xA0] (fun t => t.sp == 0x8000 && t.cycles == 20) = true := by decide

theorem test_neg :
    shows { start with a := 0x01 } [0xED, 0x44] (fun t => t.a == 0xFF && t.f.pack == 0xBB) = true ∧
      shows { start with a := 0x80 } [0xED, 0x44] (fun t => t.a == 0x80 && t.f.pack == 0x87) = true := by decide

theorem test_retn_reti :
    shows (({ start with iff2 := true } : State).place [0x34, 0x12] 0xF000) [0xED, 0x45]
        (fun t => t.pc == 0x1234 && t.iff1 && t.sp == 0xF002) = true ∧
      shows (({ start with iff2 := true } : State).place [0x00, 0x01] 0xF000) [0xED, 0x4D]
        (fun t => t.pc == 0x0100 && t.iff1 == false) = true := by decide

theorem test_interrupt_modes :
    shows { start with im := 2 } [0xED, 0x46] (fun t => t.im == 0) = true ∧
      shows start [0xED, 0x56] (fun t => t.im == 1) = true ∧ shows start [0xED, 0x5E] (fun t => t.im == 2) = true := by decide

/-- R445: after the step R is A exactly; R447: A takes R with this step's count. -/
theorem test_vector_and_refresh :
    shows { start with a := 0x3F } [0xED, 0x47] (fun t => t.i == 0x3F) = true ∧
      shows { start with a := 0x80 } [0xED, 0x4F] (fun t => t.r == 0x80) = true ∧
      shows { start with i := 0x80, iff2 := true } [0xED, 0x57] (fun t => t.a == 0x80 && t.f.pack == 0x84) = true ∧
      shows { start with r := 0x05 } [0xED, 0x5F] (fun t => t.a == 0x06 && t.r == 0x06 && t.f.pack == 0) = true := by decide

/-- R31: the low seven bits wrap and bit 7 stays. -/
theorem test_refresh_wraps :
    shows { start with r := 0xFF } [0x00] (fun t => t.r == 0x80) = true ∧ shows { start with r := 0x7F } [0x00] (fun t => t.r == 0) = true := by
  decide

theorem test_nibble_rotates :
    shows (({ start with a := 0x12, h := 0x40 } : State).place [0x34] 0x4000) [0xED, 0x6F]
        (fun t => t.peek 0x4000 == 0x42 && t.a == 0x13 && t.f.pack == 0x00) = true ∧
      shows (({ start with a := 0x12, h := 0x40 } : State).place [0x34] 0x4000) [0xED, 0x67]
        (fun t => t.peek 0x4000 == 0x23 && t.a == 0x14 && t.f.pack == 0x04) = true := by decide

theorem test_block_copy :
    shows (({ start with h := 0x80, d := 0x90, c := 3 } : State).place [0x11] 0x8000) [0xED, 0xA0]
        (fun t => t.peek 0x9000 == 0x11 && t.hl == 0x8001 && t.de == 0x9001 && t.bc == 2 && t.f.pack == 0x04) = true ∧
      shows (({ start with a := 0x08, h := 0x80, l := 2, d := 0x90, e := 2, c := 1 } : State).place [0x02] 0x8002) [0xED, 0xA8]
        (fun t => t.peek 0x9002 == 0x02 && t.hl == 0x8001 && t.de == 0x9001 && t.bc == 0 && t.f.pack == 0x28) = true := by decide

/-- R452's scenario, its first and its last step. -/
theorem test_block_copy_repeats :
    shows (({ start with h := 0x80, d := 0x90, c := 3 } : State).place [0x11] 0x8000) [0xED, 0xB0]
        (fun t => t.pc == 0x0100 && t.cycles == 21) = true ∧
      shows (({ start with h := 0x80, d := 0x90, c := 1 } : State).place [0x11] 0x8000) [0xED, 0xB0]
        (fun t => t.pc == 0x0102 && t.cycles == 16 && t.f.pv == false) = true ∧
      shows (({ start with h := 0x80, l := 2, d := 0x90, e := 2, c := 3 } : State).place [0x33] 0x8002) [0xED, 0xB8]
        (fun t => t.pc == 0x0100 && t.hl == 0x8001 && t.peek 0x9002 == 0x33) = true := by decide

theorem test_block_compare :
    shows (({ start with a := 0x10, h := 0x40, c := 2, addrReg := 0x1234 } : State).place [0x01] 0x4000) [0xED, 0xA1]
        (fun t => t.f.pack == 0x3E && t.hl == 0x4001 && t.bc == 1 && t.addrReg == 0x1235) = true ∧
      shows (({ start with a := 0x3C, h := 0x40, c := 1, addrReg := 0x1234 } : State).place [0x3C] 0x4000) [0xED, 0xA9]
        (fun t => t.f.pack == 0x42 && t.hl == 0x3FFF && t.bc == 0 && t.addrReg == 0x1233) = true := by decide

/-- R456's example, its two steps, and R457's first. -/
theorem test_block_compare_repeats :
    shows (({ start with a := 0x22, h := 0x80, c := 3 } : State).place [0x11] 0x8000) [0xED, 0xB1]
        (fun t => t.pc == 0x0100 && t.bc == 2 && t.cycles == 21) = true ∧
      shows (({ start with a := 0x22, h := 0x80, l := 1, c := 2 } : State).place [0x22] 0x8001) [0xED, 0xB1]
        (fun t => t.pc == 0x0102 && t.hl == 0x8002 && t.bc == 1 && t.f.z && t.f.pv) = true ∧
      shows (({ start with h := 0x80, l := 1, c := 2 } : State).place [0x05] 0x8001) [0xED, 0xB9] (fun t => t.pc == 0x0100)
        = true := by decide

theorem test_block_input :
    shows { start with c := 7, h := 0x60, b := 1, inputs := [0xAB] } [0xED, 0xA2]
        (fun t => t.peek 0x6000 == 0xAB && t.hl == 0x6001 && t.b == 0 && t.f.pack == 0x42 && t.addrReg == 1) = true ∧
      shows { start with h := 0x60, b := 2, inputs := [0xAB] } [0xED, 0xAA]
        (fun t => t.peek 0x6000 == 0xAB && t.hl == 0x5FFF && t.b == 1 && t.f.pack == 0x02) = true ∧
      shows { start with h := 0x60, b := 2, inputs := [0xAB] } [0xED, 0xB2] (fun t => t.pc == 0x0100 && t.cycles == 21) = true ∧
      shows { start with h := 0x60, b := 1, inputs := [0xAB] } [0xED, 0xBA] (fun t => t.pc == 0x0102 && t.cycles == 16) = true := by
  decide

theorem test_block_output :
    shows (({ start with c := 1, h := 0x70, b := 3 } : State).place [0x55] 0x7000) [0xED, 0xA3]
        (fun t => t.bus.head? == some (.portOut 1 0x55) && t.hl == 0x7001 && t.b == 2 && t.f.pack == 0x02) = true ∧
      shows (({ start with h := 0x70, b := 1 } : State).place [0x55] 0x7000) [0xED, 0xAB]
        (fun t => t.bus.head? == some (.portOut 0 0x55) && t.hl == 0x6FFF && t.f.pack == 0x42) = true ∧
      shows { start with h := 0x70, b := 2 } [0xED, 0xB3] (fun t => t.pc == 0x0100 && t.b == 1) = true ∧
      shows { start with h := 0x70, b := 1 } [0xED, 0xBB] (fun t => t.pc == 0x0102 && t.b == 0) = true := by decide

/-- R466's example. -/
theorem test_unknown_extended :
    shows start [0xED, 0x00] (fun t => t.pc == 0x0102 && t.r == 1 && t.cycles == 8 && t.diags == [.unknownExtendedOpcode 0])
      = true := by decide

/-! ### The parameters and the host's answers (R7, R61) -/

/-- R61: the host answers a read with a byte memory does not hold, leaves the next to memory, and a fetch is such a read. -/
theorem test_host_answers :
    shows { start with answers := [none, some 0x99], h := 0x40 } [0x7E]
        (fun t => t.a == 0x99 && t.answers == [] && t.memByte 0x4000 == 0 && t.bus == [.read 0x4000 0x99, .read 0x0100 0x7E])
        = true ∧
      shows { start with answers := [some 0x3C] } [0x00] (fun t => t.a == 1 && t.memByte 0x0100 == 0) = true := by decide

/-- `EI_DELAY` = 1 (D7): the flip-flops are set at the end of the EI step itself. -/
theorem test_ei_delay_parameter :
    shows { start with params := { specParams with eiDelay := 1 } } [0xFB] (fun t => t.iff1 && t.iff2 && t.eiDelay == 0) = true := by
  decide

/-- `ED_IO_C` = false (D15): ED 79 is the no-op of R466, for the cost of an unknown entry (R613). -/
theorem test_ed_io_c_parameter :
    shows { start with params := { specParams with edIoC := false } } [0xED, 0x79]
      (fun t => t.diags == [.unknownExtendedOpcode 0x79] && t.cycles == 8) = true := by decide

/-- `CYCLES` (R619): with an entry of its own, the same instruction costs another number and does the same. -/
theorem test_cycles_parameter :
    shows { start with params := { specParams with cycleTable := { specCycles with base := [[6]] } } } [0x00]
      (fun t => t.cycles == 6 && t.pc == 0x0101) = true := by decide

/-- `CYCLE_WIDTH` = 8 (R9, R39): the counter holds the count mod 256. -/
theorem test_cycle_width_parameter :
    shows { start with params := { specParams with cycleWidth := some 8 }, cycles := 254 } [0x00] (fun t => t.cycles == 2) = true := by
  decide

/-! ### Interrupts (60_exceptions.md) -/

theorem test_nmi :
    shows { start with nmiPending := true, intPending := true, iff1 := true, iff2 := true } [0x00]
      (fun t => t.pc == 0x0066 && t.peek 0xEFFF == 0x01 && t.peek 0xEFFE == 0x01 && t.iff1 == false && t.iff2 && t.intPending &&
        t.cycles == 15 && t.r == 1) = true := by decide

theorem test_modes_one_and_two :
    shows { start with intPending := true, iff1 := true, im := 1 } [0x00] (fun t => t.pc == 0x0038 && t.cycles == 17) = true ∧
      shows (({ start with intPending := true, iff1 := true, im := 2, i := 0x40, intData := 0x21 } : State).place [0x34, 0x12] 0x4021)
        [0x00] (fun t => t.pc == 0x1234 && t.cycles == 23) = true := by decide

/-- Mode 0 with RST 38h, and with a data byte that needs operands, which R510 refuses. -/
theorem test_mode_zero :
    shows { start with intPending := true, iff1 := true, intData := 0xFF } [0x00]
        (fun t => t.pc == 0x0038 && t.peek 0xEFFE == 0x01 && t.cycles == 17) = true ∧
      (match step { start with intPending := true, iff1 := true, intData := 0xCD } with
        | .refused r => r == .modeZeroNeedsOperands 0xCD
        | _ => false) = true := by decide

/-- R513: with IM = 3 nothing is accepted. -/
theorem test_unsupported_mode :
    shows { start with intPending := true, iff1 := true, im := 3 } [0x00]
      (fun t => t.pc == 0x0101 && t.intPending && t.iff1 && t.cycles == 4 && t.diags == [.unsupportedInterruptMode 3]) = true := by
  decide

/-! ### Reset and the host's placing of a word (R600, R604, log 12) -/

theorem test_reset :
    State.reset.pc = 0 ∧ State.reset.sp = 0xFFFF ∧ State.reset.a = 0xFF ∧ State.reset.f.pack = 0xFF ∧ State.reset.im = 0 := by decide

/-- The first step after reset, on the placed word of `INC A`. -/
theorem test_with_fetch_word :
    (match step (State.reset.withFetchWord 8 0x3C) with | .next t => t.a == 0 && t.pc == 1 && t.r == 1 | _ => false) = true ∧
      (match step (State.reset.withFetchWord 24 0xDDCB06) with | .next t => t.pc == 4 && t.cycles == 23 | _ => false) = true := by
  decide

/-! ### Witnesses: states and operands that meet the hypotheses of the obligations -/

/-- What a passed check says: the step answers a next state that has what was checked. -/
theorem shows_step {s : State} {code : List Byte} {check : State → Bool} (h : shows s code check = true) :
    ∃ t, step (s.place code s.pc) = .next t ∧ check t = true := by
  unfold shows at h
  split at h
  · exact ⟨_, ‹_›, h⟩
  · cases h
  · cases h

/-- DecodeOfEncode, FallbackIsTheInstruction, EveryStepCompletes: complete instructions, one behind each check of `wf`. -/
theorem test_witness_complete :
    Instr.complete true (.jrCc .c 0x10) ∧ Instr.complete true (.rst 0x38) ∧ Instr.complete true (.unknownEd 0x4C) ∧
      Instr.complete true (.inRC .b) ∧ Instr.complete true (.ldHalf .ix .xyh .a) ∧ Instr.complete true (.fallback .ix .exDeHl) ∧
      Instr.complete true (.fallback .ix (.fallback .iy .nop)) ∧ Instr.complete true (.setXyD .iy 0x80 7 0) := by
  unfold Instr.complete
  decide

/-- EncodeOfDecode. -/
theorem test_witness_decoded : decode true [0xFD, 0xEB, 0x01] = .ok (.fallback .iy .exDeHl, [0x01]) := rfl

/-- EveryEncodingDecodes: a run of two prefixes, and none. -/
theorem test_witness_prefix_run :
    (∀ p ∈ ([0xDD, 0xFD] : List Byte), p = 0xDD ∨ p = 0xFD) ∧ (∀ p ∈ ([] : List Byte), p = 0xDD ∨ p = 0xFD) ∧
      (0x76 : Byte) ≠ 0xDD ∧ (0x76 : Byte) ≠ 0xFD := by decide

/-- RoundTripsRestore: a canonical memory that lists cells, behind a host that answers from it. -/
theorem test_witness_canonical :
    (start.place [1, 2, 0, 3] 0xFFFE).mem.wf = true ∧ (start.place [1, 2, 0, 3] 0xFFFE).answers = [] := by decide

/-- BcdRoundTrip: the ends of the range. -/
theorem test_witness_decimals : (0 : Nat) < 100 ∧ (99 : Nat) < 100 := by decide

/-- BusReadAnswers: an answer ready, a read left to memory, and none. -/
theorem test_witness_answers :
    ({ start with answers := [some 7, none] } : State).answers = some 7 :: [none] ∧
      ({ start with answers := [none] } : State).answers = none :: [] ∧ start.answers = [] ∧
      ({ start with inputs := [7, 8] } : State).inputs = 7 :: [8] ∧ start.inputs = [] := ⟨rfl, rfl, rfl, rfl, rfl⟩

/-- PrefixRowsGoOn, EveryStepCompletes: some byte of memory is no index prefix, and the data byte is a one-byte instruction. -/
theorem test_witness_prefixes_end :
    start.hung = false ∧ start.prefixesEnd ∧ ({ start with halted := true } : State).halted = true ∧
      ∃ i, decode start.params.edIoC [({ start with intData := 0xFF } : State).intData] = .ok (i, []) :=
  ⟨rfl, ⟨1, 0x00, by decide⟩, rfl, .rst 0x38, rfl⟩

/-- The frames: an instruction that runs, with a register, a flag, a part and an address it leaves alone. -/
theorem test_witness_frames :
    Instr.ldi.isPrefixRow = false ∧ (∃ t, exec .ldi start = .next t) ∧ Reg8.a ∉ destRegs Instr.ldi.core ∧
      Flags.c ∈ keptFlags Instr.ldi.core ∧ Part.sp ∉ changedParts Instr.ldi.core ∧ 0x1234 ∉ storeAddrs start Instr.ldi.core :=
  ⟨rfl, ⟨_, rfl⟩, by decide, (show Flags.c ∈ [Flags.s, Flags.z, Flags.c] by simp), by decide, by decide⟩

/-- UndocumentedFlagsAreReadByNothingElse. -/
theorem test_witness_undocumented :
    Instr.isPrefixRow (.addR .b) = false ∧ Instr.core (.addR .b) ≠ .push .af ∧ Instr.core (.addR .b) ≠ .exAf ∧
      ∃ t, exec (.addR .b) start = .next t := ⟨rfl, by decide, by decide, ⟨_, rfl⟩⟩

/-- StepRunsDecodedInstruction. -/
theorem test_witness_decodes_at_pc :
    (start.place [0xDD, 0xFD, 0x23] 0x0100).hung = false ∧ (start.place [0xDD, 0xFD, 0x23] 0x0100).halted = false ∧
      decode (start.place [0xDD, 0xFD, 0x23] 0x0100).params.edIoC ((start.place [0xDD, 0xFD, 0x23] 0x0100).bytesAt 4 0x0100) =
        .ok (.fallback .ix (.incXy .iy), [0]) := ⟨rfl, rfl, rfl⟩

/-- HaltedSteps: halted, with no request, with a masked one, and with a running delay. -/
theorem test_witness_halted :
    let s : State := { start with halted := true }
    (s.hung = false ∧ s.halted = true ∧ s.nmiPending = false ∧ s.intPending = false) ∧
      (let u : State := { s with intPending := true };
        u.intPending = true ∧ u.iff1 = false ∧ u.eiDelay ≠ 1) ∧
      1 < ({ s with intPending := true, iff1 := true, eiDelay := 2 } : State).eiDelay := by decide

/-- RefreshCountsOncePerStep: a step of each kind, the second with `LD R,A` at PC, the third inside a hang. -/
theorem test_witness_steps :
    (∃ t, step (start.place [0x00] start.pc) = .next t ∧ (t.r == 1) = true) ∧
      (∃ t, step (({ start with a := 0x80 } : State).place [0xED, 0x4F] 0x0100) = .next t ∧ (t.r == 0x80) = true) ∧
      ((({ start with a := 0x80 } : State).place [0xED, 0x4F] 0x0100).instrAt.any fun i => i.core == .ldRA) = true ∧
      ∃ t, step { start with hung := true } = .next t :=
  ⟨shows_step (s := start) (code := [0x00]) (check := fun t => t.r == 1) (by decide),
    shows_step (s := { start with a := 0x80 }) (code := [0xED, 0x4F]) (check := fun t => t.r == 0x80) (by decide), by decide,
    _, rfl⟩

/-- CycleAccounting: this spec's `CYCLES` and `CYCLE_WIDTH`, and a step that completes. -/
theorem test_witness_cycles :
    start.params.cycleTable = specCycles ∧ start.params.cycleWidth = none ∧ start.hung = false ∧
      ∃ t, step (start.place [0x00] start.pc) = .next t ∧ (!t.hung) = true :=
  ⟨rfl, rfl, rfl, shows_step (s := start) (code := [0x00]) (check := fun t => !t.hung) (by decide)⟩

/-- EnableDelayCountsDown, EnableDelayHoldsInterruptsOff: each delay, with and without a request. -/
theorem test_witness_delays :
    start.nmiPending = false ∧ start.intPending = false ∧ start.countDelay.iff1 = false ∧
      ({ start with eiDelay := 2 } : State).countDelay.eiDelay ≠ 0 ∧ 2 ≤ ({ start with eiDelay := 2 } : State).eiDelay ∧
      (let s : State := { start with eiDelay := 1 }; s.eiDelay = 1 ∧ s.intPending = false ∧ s.nmiPending = false) := by decide

/-- EnableDelayHoldsInterruptsOff, where the delay ends with a request: each mode, mode 0 with a one-byte data byte. -/
theorem test_witness_delay_ends :
    (∀ im : BitVec 2, im ≠ 3 →
      let s : State := { start with eiDelay := 1, intPending := true, intData := 0xC7, im := im };
        s.nmiPending = false ∧ s.eiDelay = 1 ∧ s.intPending = true ∧ s.im ≠ 3) ∧
      decode true [0xC7] = .ok (.rst 0, []) := ⟨by decide, rfl⟩

/-- NmiAcceptance. -/
theorem test_witness_nmi : ({ start with nmiPending := true } : State).nmiPending = true := rfl

/-- MaskableAcceptance, ModeZeroAcceptance: a request due, with the delay over and with the delay at its end, in every mode. -/
theorem test_witness_due :
    ∀ im : BitVec 2,
      (let s : State := { start with intPending := true, iff1 := true, im := im };
        s.nmiPending = false ∧ s.intPending = true ∧ s.countDelay.iff1 = true ∧ s.countDelay.eiDelay = 0 ∧ s.im = im) ∧
      (let s : State := { start with intPending := true, eiDelay := 1, im := im };
        s.countDelay.iff1 = true ∧ s.countDelay.eiDelay = 0) ∧
      start.params.cycleTable = specCycles := by
  intro im
  refine ⟨?_, ?_, rfl⟩ <;> revert im <;> decide

/-- ModeZeroAcceptance: a one-byte data byte, the first and the last RST, and a data byte that needs more bytes. -/
theorem test_witness_data_bytes :
    decode true [0x76] = .ok (.halt, []) ∧ (0xC7 : Byte) = BitVec.ofNat 8 (0xC7 + 8 * (0 : Fin 8)) ∧
      (0xFF : Byte) = BitVec.ofNat 8 (0xC7 + 8 * (7 : Fin 8)) ∧ decode true [0xCD] = .error .needsMoreBytes ∧
      decode true [0xCB] = .error .needsMoreBytes := ⟨rfl, by decide, by decide, rfl, rfl⟩

/-- StepKeepsLegal, ResetIsLegal: a legal state at the bounds, whose step ends. -/
theorem test_witness_legal :
    ({ start with im := 2, eiDelay := 3 } : State).legal ∧
      ∃ t, step (({ start with im := 2, eiDelay := 3 } : State).place [0x00] 0x0100) = .next t ∧ (t.eiDelay == 2) = true :=
  ⟨by unfold State.legal; decide,
    shows_step (s := { start with im := 2, eiDelay := 3 }) (code := [0x00]) (check := fun t => t.eiDelay == 2) (by decide)⟩

/-- Reading a memory that lists one value at every address from `lo` on. -/
theorem read_filled (v : Byte) (n lo x : Nat) (h : lo ≤ x) (hx : x < lo + n) :
    Memory.read ((List.range' lo n).map fun k => (k, v)) x = v := by
  induction n generalizing lo with
  | zero => omega
  | succ n ih =>
    rw [List.range'_succ, List.map_cons, Memory.read]
    split
    · rfl
    · exact ih (lo + 1) (by omega) (by omega)

/-- StopsAreTheSpecsStops: all of memory DD, the hang of R353; and a refused step is `test_mode_zero`. -/
theorem test_witness_endless :
    let s : State := { start with mem := (List.range' 0 65536).map fun k => (k, 0xDD) }
    s.hung = false ∧ s.halted = false ∧ ¬ s.prefixesEnd := by
  intro s
  refine ⟨rfl, rfl, fun ⟨n, b, hb, hne, _⟩ => hne ?_⟩
  obtain ⟨x, rfl⟩ := State.memByte_of_mem_bytesAt (s := s) rfl hb
  exact read_filled 0xDD 65536 0 x.toNat (by omega) (by have := x.isLt; omega)

/-- StopsAreTheSpecsStops, RefreshCountsOncePerStep: inside a hang a step is one more fetch; no interrupt, no count of R (R353). -/
theorem test_hung :
    shows { start with hung := true, nmiPending := true } [0xDD]
      (fun t => t.hung && t.pc == 0x0101 && t.r == 0 && t.cycles == 0 && t.nmiPending && t.bus == [.read 0x0100 0xDD]) = true := by
  decide

end Sys2Proof.Tests
end

section
/-! SUPPORT. Reading a register after a write of one of its kind (10_state.md R20, R21, R27). -/

namespace Sys2Proof.Machine

theorem State.reg8_setReg8 (s : State) (r q : Reg8) (v : Byte) :
    (s.setReg8 r v).reg8 q = if q = r then v else s.reg8 q := by
  cases r <;> cases q <;> rfl

theorem State.rp_setRp (s : State) (p q : RPair) (w : Word) : (s.setRp p w).rp q = if q = p then w else s.rp q := by
  cases p <;> cases q <;> simp [State.setRp, State.rp, State.bc, State.de, State.hl]

theorem State.xy_setXy (s : State) (xy xz : Idx) (w : Word) : (s.setXy xy w).xy xz = if xz = xy then w else s.xy xz := by
  cases xy <;> cases xz <;> rfl

@[simp] theorem State.xyH_setXyH (s : State) (xy : Idx) (v : Byte) : (s.setXyH xy v).xyH xy = v := by
  simp [State.setXyH, State.xyH, State.xy_setXy]

@[simp] theorem State.xyL_setXyH (s : State) (xy : Idx) (v : Byte) : (s.setXyH xy v).xyL xy = s.xyL xy := by
  simp [State.setXyH, State.xyL, State.xy_setXy]

@[simp] theorem State.xyL_setXyL (s : State) (xy : Idx) (v : Byte) : (s.setXyL xy v).xyL xy = v := by
  simp [State.setXyL, State.xyL, State.xy_setXy]

@[simp] theorem State.xyH_setXyL (s : State) (xy : Idx) (v : Byte) : (s.setXyL xy v).xyH xy = s.xyH xy := by
  simp [State.setXyL, State.xyH, State.xy_setXy]

/-- Settles O6: each kind of register reads back what was written to it, and a pair is the word of its two halves. -/
theorem registerFileReadsBack : Obligations.RegisterFileReadsBack := by
  intro s v w
  exact ⟨fun r q => s.reg8_setReg8 r q v, fun p q => s.rp_setRp p q w, fun xy xz => s.xy_setXy xy xz w, toNat_mkWord _ _,
    toNat_mkWord _ _, toNat_mkWord _ _, toNat_mkWord _ _,
    fun xy => ⟨s.xyH_setXyH xy v, s.xyL_setXyH xy v, s.xyL_setXyL xy v, s.xyH_setXyL xy v⟩⟩

end Sys2Proof.Machine
end

section
/-! SUPPORT. What the decoder answers is a complete instruction, table by table (30_encoding.md R100 to R113, R119). -/

namespace Sys2Proof

open Machine (opY opZ)

/-! ### What an entry of the tables can answer -/

/-- Every instruction an entry of the decoder's tables answers has the property. -/
def Yields (P : Instr → Prop) (entry : List Byte → Decoded) : Prop :=
  ∀ bs i rest, entry bs = .ok (i, rest) → P i

@[simp] theorem yields_noOperand {P : Instr → Prop} {i : Instr} : Yields P (noOperand i) ↔ P i := by
  simp [Yields, noOperand]

@[simp] theorem yields_oneByte {P : Instr → Prop} {f : Byte → Instr} : Yields P (oneByte f) ↔ ∀ n, P (f n) := by
  constructor
  · exact fun h n => h [n] _ _ rfl
  · intro h bs i rest hd
    match bs with
    | [] => cases hd
    | n :: _ => cases hd; exact h n

@[simp] theorem yields_twoBytes {P : Instr → Prop} {f : Byte → Byte → Instr} :
    Yields P (twoBytes f) ↔ ∀ d n, P (f d n) := by
  constructor
  · exact fun h d n => h [d, n] _ _ rfl
  · intro h bs i rest hd
    match bs with
    | [] | [_] => cases hd
    | d :: n :: _ => cases hd; exact h d n

@[simp] theorem yields_immWord {P : Instr → Prop} {f : Word → Instr} : Yields P (immWord f) ↔ ∀ nn, P (f nn) := by
  constructor
  · intro h nn
    have hd := h [Machine.loByte nn, Machine.hiByte nn] _ _ rfl
    rwa [Machine.mkWord_hiByte_loByte] at hd
  · intro h bs i rest hd
    match bs with
    | [] | [_] => cases hd
    | _ :: _ :: _ => cases hd; exact h _

@[simp] theorem yields_barePrefix {P : Instr → Prop} : Yields P barePrefix := nofun

/-! ### The entries of the tables are complete instructions -/

theorem Cond.isRelative_ofCode {n : Nat} (h : n < 4) : (Cond.ofCode n).isRelative = true := by
  interval_cases n <;> rfl

/-- An RST target is a multiple of 8 (R310). -/
theorem complete_rst (io : Bool) {y : Nat} (h : y < 8) : (Instr.rst (BitVec.ofNat 8 (8 * y))).complete io := by
  refine ⟨?_, rfl⟩
  interval_cases y <;> rfl

theorem regOrMem_complete {io : Bool} (code : Nat) {reg : Reg8 → Instr} {mem : Instr} (hr : ∀ r, (reg r).complete io)
    (hm : mem.complete io) : (regOrMem code reg mem).complete io := by
  unfold regOrMem
  split
  · exact hr _
  · exact hm

theorem baseX0_complete (io : Bool) {y : Nat} (z : Nat) (hy : y < 8) : Yields (·.complete io) (baseX0 y z) := by
  unfold baseX0
  split
  · split
    case h_5 => simp [Instr.complete, Instr.wf, Instr.isPrefixRow, Cond.isRelative_ofCode (n := y - 4) (by omega)]
    all_goals simp [Instr.complete, Instr.wf, Instr.isPrefixRow]
  · split <;> simp [Instr.complete, Instr.wf, Instr.isPrefixRow]
  · split <;> simp [Instr.complete, Instr.wf, Instr.isPrefixRow]
  · split <;> simp [Instr.complete, Instr.wf, Instr.isPrefixRow]
  · exact yields_noOperand.2 (regOrMem_complete _ (fun _ => ⟨rfl, rfl⟩) ⟨rfl, rfl⟩)
  · exact yields_noOperand.2 (regOrMem_complete _ (fun _ => ⟨rfl, rfl⟩) ⟨rfl, rfl⟩)
  · split <;> simp [Instr.complete, Instr.wf, Instr.isPrefixRow]
  · split <;> simp [Instr.complete, Instr.wf, Instr.isPrefixRow]

theorem ldRow_complete (io : Bool) (y z : Nat) : (ldRow y z).complete io := by
  unfold ldRow
  split <;> exact ⟨rfl, rfl⟩

theorem aluRow_complete (io : Bool) (y z : Nat) : (aluRow y z).complete io := by
  unfold aluRow
  split <;> exact ⟨rfl, rfl⟩

theorem aluImm_complete (io : Bool) (y : Nat) (n : Byte) : (aluImm y n).complete io := by
  unfold aluImm
  split <;> exact ⟨rfl, rfl⟩

theorem baseX3_complete (io : Bool) {y : Nat} (z : Nat) (hy : y < 8) : Yields (·.complete io) (baseX3 y z) := by
  unfold baseX3
  split
  · simp [Instr.complete, Instr.wf, Instr.isPrefixRow]
  · split <;> simp [Instr.complete, Instr.wf, Instr.isPrefixRow]
  · simp [Instr.complete, Instr.wf, Instr.isPrefixRow]
  · split <;> simp [Instr.complete, Instr.wf, Instr.isPrefixRow]
  · simp [Instr.complete, Instr.wf, Instr.isPrefixRow]
  · split <;> simp [Instr.complete, Instr.wf, Instr.isPrefixRow]
  · exact yields_oneByte.2 (aluImm_complete io y)
  · exact yields_noOperand.2 (complete_rst io hy)

theorem opY_lt (op : Byte) : opY op < 8 := Nat.mod_lt _ (by decide)

theorem baseEntry_complete (io : Bool) (op : Byte) : Yields (·.complete io) (baseEntry op) := by
  unfold baseEntry
  split
  · exact baseX0_complete io _ (opY_lt op)
  · exact yields_noOperand.2 (ldRow_complete io _ _)
  · exact yields_noOperand.2 (aluRow_complete io _ _)
  · exact baseX3_complete io _ (opY_lt op)

theorem rotRow_complete (io : Bool) (y z : Nat) : (rotRow y z).complete io := by
  unfold rotRow
  split <;> exact regOrMem_complete _ (fun _ => ⟨rfl, rfl⟩) ⟨rfl, rfl⟩

theorem cbEntry_complete (io : Bool) (op : Byte) : (cbEntry op).complete io := by
  unfold cbEntry
  split
  · exact rotRow_complete io _ _
  all_goals exact regOrMem_complete _ (fun _ => ⟨rfl, rfl⟩) ⟨rfl, rfl⟩

theorem ddcbEntry_complete (io : Bool) (xy : Idx) (d op : Byte) : (ddcbEntry xy d op).complete io := by
  unfold ddcbEntry
  split
  · split <;> exact ⟨rfl, rfl⟩
  all_goals exact ⟨rfl, rfl⟩

theorem edX1_complete (io : Bool) (y z : Nat) : ∀ e ∈ edX1 io y z, Yields (·.complete io) e := by
  unfold edX1
  split
  · split <;> simp [Instr.complete, Instr.wf, Instr.isPrefixRow, *]
  · split <;> simp [Instr.complete, Instr.wf, Instr.isPrefixRow, *]
  all_goals split <;> simp [Instr.complete, Instr.wf, Instr.isPrefixRow]

theorem edX2_complete (io : Bool) (y z : Nat) : ∀ i ∈ edX2 y z, i.complete io := by
  unfold edX2
  split <;> simp [Instr.complete, Instr.wf, Instr.isPrefixRow]

theorem edEntry_complete (io : Bool) (op : Byte) : ∀ e ∈ edEntry io op, Yields (·.complete io) e := by
  unfold edEntry
  split
  · exact edX1_complete io _ _
  · simpa using edX2_complete io (opY op) (opZ op)
  · nofun

theorem decodeEd_complete (io : Bool) : Yields (·.complete io) (decodeEd io) := by
  intro bs i rest hd
  match bs with
  | [] => cases hd
  | op :: bs =>
    rw [decodeEd] at hd
    split at hd
    · next entry he => exact edEntry_complete io op entry he bs i rest hd
    · next he =>
      cases hd
      simp [Instr.complete, Instr.wf, Instr.isPrefixRow, knownEd, he]

theorem indexX0_complete (io : Bool) (xy : Idx) (y z : Nat) : ∀ e ∈ indexX0 xy y z, Yields (·.complete io) e := by
  unfold indexX0
  split <;> simp [Instr.complete, Instr.wf, Instr.isPrefixRow]

theorem indexX1_complete (io : Bool) (xy : Idx) (y z : Nat) : ∀ e ∈ indexX1 xy y z, Yields (·.complete io) e := by
  unfold indexX1
  split
  · split
    · next h => simpa [Instr.complete, Instr.wf, Instr.isPrefixRow] using h
    · nofun
  · simp [Instr.complete, Instr.wf, Instr.isPrefixRow]
  · simp [Instr.complete, Instr.wf, Instr.isPrefixRow]
  · nofun

theorem indexX2_complete (io : Bool) (xy : Idx) (y z : Nat) : ∀ e ∈ indexX2 xy y z, Yields (·.complete io) e := by
  unfold indexX2
  split <;> simp [Instr.complete, Instr.wf, Instr.isPrefixRow]

theorem indexX3_complete (io : Bool) (xy : Idx) (y z : Nat) : ∀ e ∈ indexX3 xy y z, Yields (·.complete io) e := by
  unfold indexX3
  split <;> simp [Instr.complete, Instr.wf, Instr.isPrefixRow]

theorem indexEntry_complete (io : Bool) (xy : Idx) (op : Byte) : ∀ e ∈ indexEntry xy op, Yields (·.complete io) e := by
  unfold indexEntry
  split
  · exact indexX0_complete io xy _ _
  · exact indexX1_complete io xy _ _
  · exact indexX2_complete io xy _ _
  · exact indexX3_complete io xy _ _

/-! ### What a decoding answers -/

/-- A fallback stands before a complete instruction (R352). -/
theorem Instr.complete.of_fallback {io : Bool} {xy : Idx} {i : Instr} (h : (Instr.fallback xy i).complete io) :
    i.complete io := by
  obtain ⟨hwf, -⟩ := h
  simp only [Instr.wf, Bool.and_eq_true, Bool.not_eq_true'] at hwf
  obtain ⟨⟨hi, hrow⟩, -⟩ := hwf
  exact ⟨hi, hrow⟩

theorem Instr.complete.core {io : Bool} {i : Instr} (h : i.complete io) : i.core.complete io := by
  induction i with
  | fallback xy i ih => exact ih h.of_fallback
  | _ => exact h

theorem Instr.isPrefixRow_of_core {i : Instr} (h : i.core.isPrefixRow = false) : i.isPrefixRow = false := by
  cases i with
  | fallback => rfl
  | _ => exact h

theorem decodeIndexed_core_complete (io : Bool) (xy : Idx) {bs : List Byte} {base : Decoded} {i : Instr} {rest : List Byte}
    (hb : ∀ j r, base = .ok (j, r) → j.core.complete io) (hd : decodeIndexed xy bs base = .ok (i, rest)) :
    i.core.complete io := by
  match bs with
  | [] => cases hd
  | b1 :: bs =>
    rw [decodeIndexed] at hd
    split at hd
    · exact (yields_twoBytes.2 (ddcbEntry_complete io xy) _ _ _ hd).core
    · split at hd
      · next entry he => exact (indexEntry_complete io xy b1 entry he _ _ _ hd).core
      · match base with
        | .error _ => cases hd
        | .ok (j, r) => cases hd; exact hb j _ rfl

/-- What a decoding answers is, behind any ignored index bytes, a complete instruction (R100, R119, R352). -/
theorem decode_core_complete (io : Bool) : Yields (fun i => i.core.complete io) (decode io) := by
  intro bs
  induction bs with
  | nil => nofun
  | cons b0 bs ih =>
    intro i rest hd
    rw [decode] at hd
    split at hd
    · exact (yields_oneByte.2 (cbEntry_complete io) _ _ _ hd).core
    · split at hd
      · exact (decodeEd_complete io _ _ _ hd).core
      · split at hd
        · exact decodeIndexed_core_complete io _ ih hd
        · exact (baseEntry_complete io _ _ _ _ hd).core

theorem instrAt_core_complete {s : Machine.State} {i : Instr} (h : s.instrAt = some i) : i.core.complete s.params.edIoC := by
  unfold Machine.State.instrAt at h
  split at h
  · next hd => cases h; exact decode_core_complete _ _ _ _ hd
  · cases h

end Sys2Proof
end

section
/-! SUPPORT. The base cost of every form by the rules (70_reset_and_hazards.md R611 to R615). -/

namespace Sys2Proof.Machine

/-! ### The tables by their rows -/

/-- The CB table on a register (R612). -/
theorem ofBytes_cbBytes_reg (x : Fin 4) (y : Fin 8) (r : Reg8) : specCycles.ofBytes (cbBytes x y r.code) = 8 := by
  cases r <;> revert x y <;> decide

/-- The CB table on `(HL)`: BIT does not write back (R612). -/
theorem ofBytes_cbBytes_mem (x : Fin 4) (y : Fin 8) :
    specCycles.ofBytes (cbBytes x y 6) = if x = 1 then 12 else 15 := by
  revert x y; decide

theorem costAt_displacedBits (x : Fin 4) (y z : Fin 8) :
    costAt specDisplacedBitCosts (opByte x y z) = if x = 1 then 20 else 23 := by
  revert x y z; decide

/-- The displaced-bit table (R615). -/
theorem ofBytes_ddcbBytes (xy : Idx) (d : Byte) (x : Fin 4) (y z : Fin 8) :
    specCycles.ofBytes (ddcbBytes xy d x y z) = if x = 1 then 20 else 23 := by
  rw [← costAt_displacedBits x y z]
  cases xy <;> rfl

theorem ofBytes_encode_rst (p : Byte) (h : ((p &&& 0xC7) == 0) = true) : specCycles.ofBytes (encode (.rst p)) = 11 := by
  revert p; decide

theorem ofBytes_encode_ldHalf (xy : Idx) (dst src : XReg) (h : (dst.isHalf || src.isHalf) = true) :
    specCycles.ofBytes (encode (.ldHalf xy dst src)) = 8 := by
  cases xy <;> cases dst <;> cases src <;> revert h <;> decide

/-! ### Every form -/

/-- The tables of `CYCLES` and the rules agree on every form (R611 to R615). -/
theorem baseCost_eq_ruleCost {io : Bool} {i : Instr} (h : i.complete io) : baseCost specCycles i = ruleCost i := by
  induction i with
  | fallback xy i ih => exact congrArg (4 + ·) (ih h.of_fallback)
  | prefixCB | prefixED | prefixXY | prefixXyCB => cases h.2
  | ldRR dst src => cases dst <;> cases src <;> rfl
  | ldRN r | ldRM r | ldMR r | addR r | adcR r | subR r | sbcR r | andR r | xorR r | orR r | cpR r | incR r | decR r =>
    cases r <;> rfl
  | ldRpImm p | incRp p | decRp p | addHlRp p | push p | pop p => cases p <;> rfl
  | sbcHlRp p | adcHlRp p | ldAbsRp _ p | ldRpAbs p => cases p <;> rfl
  | jpCc cc | callCc cc | retCc cc => cases cc <;> rfl
  | jrCc cc =>
    cases cc with
    | nz | z | nc | c => rfl
    | po | pe | p | m => cases h.1
  | rst p => exact ofBytes_encode_rst p h.1
  | inRC r | outCR r => cases r <;> rfl
  | rlcR r => exact ofBytes_cbBytes_reg 0 0 r
  | rrcR r => exact ofBytes_cbBytes_reg 0 1 r
  | rlR r => exact ofBytes_cbBytes_reg 0 2 r
  | rrR r => exact ofBytes_cbBytes_reg 0 3 r
  | slaR r => exact ofBytes_cbBytes_reg 0 4 r
  | sraR r => exact ofBytes_cbBytes_reg 0 5 r
  | sllR r => exact ofBytes_cbBytes_reg 0 6 r
  | srlR r => exact ofBytes_cbBytes_reg 0 7 r
  | bitR b r => exact ofBytes_cbBytes_reg 1 b r
  | resR b r => exact ofBytes_cbBytes_reg 2 b r
  | setR b r => exact ofBytes_cbBytes_reg 3 b r
  | bitM b => exact ofBytes_cbBytes_mem 1 b
  | resM b => exact ofBytes_cbBytes_mem 2 b
  | setM b => exact ofBytes_cbBytes_mem 3 b
  | addXyRp xy p => cases xy <;> cases p <;> rfl
  | aluXyH xy op | aluXyL xy op | aluXyD xy op => cases xy <;> cases op <;> rfl
  | ldRXyD xy r | ldXyDR xy _ r => cases xy <;> cases r <;> rfl
  | ldHalf xy dst src => exact ofBytes_encode_ldHalf xy dst src h.1
  | rlcXyD xy d z => exact ofBytes_ddcbBytes xy d 0 0 z
  | rrcXyD xy d z => exact ofBytes_ddcbBytes xy d 0 1 z
  | rlXyD xy d z => exact ofBytes_ddcbBytes xy d 0 2 z
  | rrXyD xy d z => exact ofBytes_ddcbBytes xy d 0 3 z
  | slaXyD xy d z => exact ofBytes_ddcbBytes xy d 0 4 z
  | sraXyD xy d z => exact ofBytes_ddcbBytes xy d 0 5 z
  | sllXyD xy d z => exact ofBytes_ddcbBytes xy d 0 6 z
  | srlXyD xy d z => exact ofBytes_ddcbBytes xy d 0 7 z
  | bitXyD xy d b z => exact ofBytes_ddcbBytes xy d 1 b z
  | resXyD xy d b z => exact ofBytes_ddcbBytes xy d 2 b z
  | setXyD xy d b z => exact ofBytes_ddcbBytes xy d 3 b z
  | ldXyImm xy | ldAbsXy xy | ldXyAbs xy | incXy xy | decXy xy | incXyH xy | decXyH xy | ldXyHN xy | incXyL xy | decXyL xy
  | ldXyLN xy | incXyD xy | decXyD xy | ldXyDN xy | popXy xy | pushXy xy | exSpXy xy | jpXy xy | ldSpXy xy =>
    cases xy <;> rfl
  | _ => rfl

theorem four_le_ruleCost {i : Instr} (h : i.isPrefixRow = false) : 4 ≤ ruleCost i := by
  cases i with
  | fallback xy i => exact Nat.le_add_right 4 _
  | prefixCB | prefixED | prefixXY | prefixXyCB => cases h
  | _ => exact Nat.le_of_ble_eq_true rfl

/-- Ignored index bytes only add to the cost (R614). -/
theorem baseCost_core_le (c : CycleTable) (i : Instr) : baseCost c i.core ≤ baseCost c i := by
  induction i with
  | fallback xy i ih => exact ih.trans (Nat.le_add_left _ _)
  | _ => exact Nat.le_refl _

theorem four_le_baseCost {io : Bool} {i : Instr} (h : i.core.complete io) : 4 ≤ baseCost specCycles i :=
  calc 4 ≤ ruleCost i.core := four_le_ruleCost h.2
    _ = baseCost specCycles i.core := (baseCost_eq_ruleCost h).symm
    _ ≤ baseCost specCycles i := baseCost_core_le specCycles i

end Sys2Proof.Machine
end

section
/-! SUPPORT. The cycle counter through an instruction, the interrupt state machine and a step (70_reset_and_hazards.md R610 to
R618). -/

namespace Sys2Proof.Machine

/-! ### States between which the counter only counts -/

/-- From `s` to `t` the cycle counter only counts: it keeps its value, or some cycles are added within `CYCLE_WIDTH`. -/
def State.CountsTo (s t : State) : Prop :=
  t.params = s.params ∧ (t.cycles = s.cycles ∨ ∃ n, t.cycles = s.params.count (s.cycles + n))

theorem State.CountsTo.of_eq {s t : State} (hp : t.params = s.params) (hc : t.cycles = s.cycles) : s.CountsTo t :=
  ⟨hp, .inl hc⟩

/-- Cycles added after a count are added to it: one addition says it all. -/
theorem State.CountsTo.count_add {s t : State} (h : s.CountsTo t) (n : Nat) :
    ∃ m, t.params.count (t.cycles + n) = s.params.count (s.cycles + m + n) := by
  obtain ⟨hp, hc | ⟨m, hc⟩⟩ := h
  · exact ⟨0, by rw [hp, hc, Nat.add_zero]⟩
  · exact ⟨m, by rw [hp, hc, Params.count_count_add]⟩

theorem State.CountsTo.trans {s t u : State} (h : s.CountsTo t) (h' : t.CountsTo u) : s.CountsTo u := by
  obtain ⟨hp, hc | ⟨n, hc⟩⟩ := h'
  · exact ⟨hp.trans h.1, by rw [hc]; exact h.2⟩
  · obtain ⟨m, hm⟩ := h.count_add n
    exact ⟨hp.trans h.1, .inr ⟨m + n, by rw [hc, hm, Nat.add_assoc]⟩⟩

theorem State.CountsTo.tick {s t : State} (h : s.CountsTo t) (n : Nat) : s.CountsTo (t.tick n) :=
  h.trans ⟨rfl, .inr ⟨n, rfl⟩⟩

theorem State.CountsTo.surcharge {s t : State} (h : s.CountsTo t) (n : Nat) : s.CountsTo (t.surcharge n) := h.tick n

/-- A repeat rewinds PC and adds its surcharge, or does nothing (R431). -/
theorem State.CountsTo.repeatWhile {s t : State} (h : s.CountsTo t) (again : Bool) : s.CountsTo (t.repeatWhile again) := by
  cases again with
  | true => exact State.CountsTo.tick (t := { t with pc := t.pc - 2 }) h 5
  | false => exact h

/-! ### The instructions -/

@[simp] theorem State.push16_params (s : State) (v : Word) : (s.push16 v).params = s.params := by simp [State.push16]

@[simp] theorem State.push16_cycles (s : State) (v : Word) : (s.push16 v).cycles = s.cycles := by simp [State.push16]

theorem State.countsTo_blockCopy (s : State) (dir : Word) : s.CountsTo (s.blockCopy dir) :=
  .of_eq (by simp [State.blockCopy]) (by simp [State.blockCopy])

theorem State.countsTo_blockCompare (s : State) (dir : Word) : s.CountsTo (s.blockCompare dir) :=
  .of_eq (by simp [State.blockCompare]) (by simp [State.blockCompare])

theorem State.countsTo_blockIn (s : State) (dir : Word) : s.CountsTo (s.blockIn dir) :=
  .of_eq (by simp [State.blockIn, State.blockIoStep]) (by simp [State.blockIn, State.blockIoStep])

theorem State.countsTo_blockOut (s : State) (dir : Word) : s.CountsTo (s.blockOut dir) :=
  .of_eq (by simp [State.blockOut, State.blockIoStep]) (by simp [State.blockOut, State.blockIoStep])

/-- A complete instruction adds a taken branch's or a repeat's surcharge to the counter, or nothing (R616). -/
theorem runComplete_countsTo (i : Instr) {s t : State} (h : runComplete i s = .next t) : s.CountsTo t := by
  induction i with
  | fallback xy i ih => exact ih h
  | prefixCB | prefixED | prefixXY | prefixXyCB => cases h
  | jrCc | callCc | retCc =>
    cases h
    split
    · refine .surcharge (.of_eq ?_ ?_) _ <;> simp [State.callTo, State.returnPc, State.afterPop, State.sawRead16]
    · exact .of_eq rfl rfl
  | djnz =>
    cases h
    split
    · exact .of_eq rfl rfl
    · refine .surcharge (.of_eq ?_ ?_) _ <;> simp
  | jpCc =>
    cases h
    split
    · exact .of_eq (by simp) (by simp)
    · exact .of_eq rfl rfl
  | ldi | ldd => cases h; exact s.countsTo_blockCopy _
  | cpi | cpd => cases h; exact s.countsTo_blockCompare _
  | ini | ind => cases h; exact s.countsTo_blockIn _
  | outi | outd => cases h; exact s.countsTo_blockOut _
  | ldir | lddr => cases h; exact (s.countsTo_blockCopy _).repeatWhile _
  | cpir | cpdr => cases h; exact (s.countsTo_blockCompare _).repeatWhile _
  | inir | indr => cases h; exact (s.countsTo_blockIn _).repeatWhile _
  | otir | otdr => cases h; exact (s.countsTo_blockOut _).repeatWhile _
  | _ =>
    cases h
    refine .of_eq ?_ ?_ <;>
      simp [State.sawRead16, State.writeWord, State.afterPop, State.swapTop, State.callTo, State.returnPc, State.returnNmi,
        State.formEa, State.setXyH, State.setXyL, State.alu, State.rotA, State.modifyByte, State.rotReg, State.rotMem,
        State.mapByte, State.testMem, State.nibbleRotate]

theorem exec_countsTo {i : Instr} {io : Bool} (hi : i.core.complete io) {s t : State} (h : exec i s = .next t) :
    s.CountsTo t :=
  runComplete_countsTo i (exec_eq_runComplete (Instr.isPrefixRow_of_core hi.2) s ▸ h)

theorem State.countsTo_fetch (s : State) (n : Nat) : s.CountsTo (s.fetch n) :=
  .of_eq (by rw [State.fetch_eq]) (by rw [State.fetch_eq])

/-! ### The interrupt state machine -/

theorem State.countsTo_countDelay (s : State) : s.CountsTo s.countDelay := by
  unfold State.countDelay
  split <;> exact .of_eq rfl rfl

theorem State.countsTo_enterHandler (s : State) (entry : Word) : s.CountsTo (s.enterHandler entry) :=
  .of_eq (by simp [State.enterHandler, State.callTo]) (by simp [State.enterHandler, State.callTo])

theorem State.countsTo_enterVector (s : State) : s.CountsTo s.enterVector :=
  .of_eq (by simp [State.enterVector, State.sawRead16]) (by simp [State.enterVector, State.sawRead16])

theorem State.countsTo_acceptNmi (s : State) : s.CountsTo s.acceptNmi :=
  (State.CountsTo.trans (.of_eq rfl rfl) (State.countsTo_enterHandler _ nmiEntry)).tick _

theorem modeZero_countsTo {s t : State} (h : modeZero s = .next t) : s.CountsTo t := by
  unfold modeZero at h
  split at h
  · next i _ hd =>
    obtain ⟨u, hu, ht⟩ := andThen_eq_next.1 h
    cases ht
    obtain ⟨hp, _⟩ := exec_countsTo (decode_core_complete _ _ _ _ hd) hu
    exact ⟨hp, .inr ⟨_, by rw [Nat.add_assoc]⟩⟩
  · cases h

theorem acceptMaskable_countsTo {s t : State} (h : acceptMaskable s = .next t) : s.CountsTo t := by
  have htake : s.CountsTo s.takeMaskable := .of_eq rfl rfl
  unfold acceptMaskable at h
  split at h
  · exact htake.trans (modeZero_countsTo h)
  · split at h
    · cases h
      exact (htake.trans (State.countsTo_enterHandler _ _)).tick _
    · split at h
      · cases h
        exact (htake.trans (State.countsTo_enterVector _)).tick _
      · cases h
        exact .of_eq rfl rfl

theorem interruptEval_countsTo {s t : State} (h : interruptEval s = .next t) : s.CountsTo t := by
  refine s.countsTo_countDelay.trans ?_
  unfold interruptEval arbitrate at h
  split at h
  · cases h
    exact State.countsTo_acceptNmi _
  · split at h
    · exact acceptMaskable_countsTo h
    · cases h
      exact .of_eq rfl rfl

/-! ### The step -/

/-- Once some cycles have been added, the interrupt state machine only adds more, in one addition in all. -/
theorem interruptEval_tick_cycles {s u t : State} {k : Nat} (hu : s.CountsTo u) (h : interruptEval (u.tick k) = .next t) :
    ∃ n, t.cycles = s.params.count (s.cycles + (k + n)) := by
  obtain ⟨m, hm⟩ := hu.count_add k
  have hc : (u.tick k).cycles = s.params.count (s.cycles + m + k) := hm
  obtain ⟨-, ht | ⟨n, ht⟩⟩ := interruptEval_countsTo h
  · exact ⟨m, by rw [ht, hc, Nat.add_assoc, Nat.add_comm m]⟩
  · refine ⟨m + n, ?_⟩
    rw [ht, hc, State.tick_params, hu.1, Params.count_count_add]
    congr 1
    omega

/-- A step that completes adds the cost of a halted no-op or the base cost of the instruction at PC, and what surcharges and an
acceptance add (R610, R616, R617, R618); a step that does not leaves the counter. -/
theorem step_cycles {s t : State} (h : step s = .next t) :
    (t.hung = true ∧ t.cycles = s.cycles) ∨
    ∃ k n, (k = haltedCost ∨ ∃ i, s.instrAt = some i ∧ k = baseCost s.params.cycleTable i) ∧
      t.cycles = s.params.count (s.cycles + (k + n)) := by
  have hinc : s.CountsTo s.incR := .of_eq rfl rfl
  obtain ⟨-, hs⟩ | ⟨-, -, hs⟩ | ⟨-, -, i, hi, hs⟩ | ⟨-, -, -, hs⟩ := step_cases s
  · rw [hs] at h
    cases h
    exact .inl ⟨rfl, rfl⟩
  · rw [hs] at h
    obtain ⟨n, hn⟩ := interruptEval_tick_cycles hinc h
    exact .inr ⟨haltedCost, n, .inl rfl, hn⟩
  · rw [hs] at h
    obtain ⟨v, hv, h⟩ := andThen_eq_next.1 h
    obtain ⟨u, hu, hv⟩ := andThen_eq_next.1 hv
    cases hv
    have hcount := (hinc.trans (s.incR.countsTo_fetch i.size)).trans (exec_countsTo (instrAt_core_complete hi) hu)
    obtain ⟨n, hn⟩ := interruptEval_tick_cycles hcount h
    exact .inr ⟨_, n, .inr ⟨i, hi, rfl⟩, hn⟩
  · rw [hs] at h
    cases h
    exact .inl ⟨rfl, rfl⟩

/-- Settles O50: the base costs by the tables, and one addition per step, by what a step can be. -/
theorem cycleAccounting : Obligations.CycleAccounting := by
  refine ⟨fun io i h => baseCost_eq_ruleCost h, ⟨rfl, rfl, rfl, rfl⟩, fun s t hc _ hs ht => ?_, fun s t hw hs => ?_⟩
  · obtain ⟨hhung, -⟩ | ⟨k, n, hk, hn⟩ := step_cycles hs
    · rw [hhung] at ht
      cases ht
    · have hk4 : 4 ≤ k := by
        obtain rfl | ⟨i, hi, rfl⟩ := hk
        · exact Nat.le_refl 4
        · rw [hc]
          exact four_le_baseCost (instrAt_core_complete hi)
      exact ⟨k + n, by omega, hn⟩
  · obtain ⟨-, ht⟩ | ⟨k, n, -, hn⟩ := step_cycles hs
    · exact ht.ge
    · rw [hn, Params.count_unbounded hw]
      exact Nat.le_add_right _ _

end Sys2Proof.Machine
end

section
/-! SUPPORT. The frames by slots: what a frame speaks of, and the slots each named operation can change (10_state.md R43). -/

namespace Sys2Proof.Machine

/-- What a frame speaks of: one of the seven registers, a part of the state, or the fields that no instruction touches. -/
inductive Slot where
  | reg (r : Reg8)
  | part (p : Part)
  | untouched

/-- Two states agree on a slot. -/
def Slot.same : Slot → State → State → Prop
  | .reg r, s, t => t.reg8 r = s.reg8 r
  | .part p, s, t => p.same s t
  | .untouched, s, t =>
    t.nmiPending = s.nmiPending ∧ t.intPending = s.intPending ∧ t.intData = s.intData ∧ t.hung = s.hung ∧
      t.params = s.params

/-- The slots a complete instruction may change: its destination registers and its parts. -/
def changedSlots (i : Instr) : List Slot := (destRegs i).map .reg ++ (changedParts i).map .part

namespace Slot

variable {o : Slot} {s t : State}

@[simp] theorem same_refl : o.same s s := by
  casesm* Slot, Part <;> simp [same, Part.same]

/-! ### The operations on one part -/

@[simp] theorem same_writeByte (x : Word) (v : Byte) : o.same s (t.writeByte x v) ↔ o.same s t := by
  casesm* Slot, Reg8, Part <;> rfl

@[simp] theorem same_portOut (port v : Byte) : o.same s (t.portOut port v) ↔ o.same s t := by
  casesm* Slot, Reg8, Part <;> rfl

@[simp] theorem same_tick (n : Nat) : o.same s (t.tick n) ↔ o.same s t := by
  casesm* Slot, Reg8, Part <;> rfl

@[simp] theorem same_surcharge (n : Nat) : o.same s (t.surcharge n) ↔ o.same s t := same_tick n

@[simp] theorem same_jump (x : Word) : o.same s (t.jump x) ↔ o.same s t := by
  casesm* Slot, Reg8, Part <;> rfl

@[simp] theorem same_setFlags (f : Flags) : o.same s (t.setFlags f) ↔ o.same s t := by
  casesm* Slot, Reg8, Part <;> rfl

@[simp] theorem same_sawRead (x : Word) (h : o ≠ .part .reads) : o.same s (t.sawRead x) ↔ o.same s t := by
  casesm* Slot, Reg8, Part <;> simp [same, Part.same, State.reg8] at h ⊢

@[simp] theorem same_sawPortIn (port : Byte) (h : o ≠ .part .ports) : o.same s (t.sawPortIn port) ↔ o.same s t := by
  casesm* Slot, Reg8, Part <;> simp [same, Part.same, State.reg8] at h ⊢

@[simp] theorem same_diag (ev : Diag) (h : o ≠ .part .diags) : o.same s (t.diag ev) ↔ o.same s t := by
  casesm* Slot, Reg8, Part <;> simp [same, Part.same, State.reg8] at h ⊢

@[simp] theorem same_setAddrReg (x : Word) (h : o ≠ .part .addrReg) : o.same s (t.setAddrReg x) ↔ o.same s t := by
  casesm* Slot, Reg8, Part <;> simp [same, Part.same, State.reg8] at h ⊢

@[simp] theorem same_push16 (v : Word) (h : o ≠ .part .sp) : o.same s (t.push16 v) ↔ o.same s t := by
  casesm* Slot, Reg8, Part <;> simp [same, Part.same, State.reg8, State.push16_eq] at h ⊢

@[simp] theorem same_afterPop (hsp : o ≠ .part .sp) (hr : o ≠ .part .reads) : o.same s t.afterPop ↔ o.same s t := by
  casesm* Slot, Reg8, Part <;> simp [same, Part.same, State.reg8, State.afterPop_eq] at hsp hr ⊢

@[simp] theorem same_setXy (xy : Idx) (v : Word) (h : o ≠ .part (xyPart xy)) : o.same s (t.setXy xy v) ↔ o.same s t := by
  cases xy <;> casesm* Slot, Reg8, Part <;> simp [same, Part.same, State.reg8, State.setXy, xyPart] at h ⊢

/-! ### The operations on registers -/

@[simp] theorem same_setReg8 (q : Reg8) (v : Byte) (h : o ≠ .reg q) : o.same s (t.setReg8 q v) ↔ o.same s t := by
  casesm* Slot, Part <;> simp [same, Part.same, State.reg8_setReg8] at h ⊢
  simp [h]

@[simp] theorem same_setA (v : Byte) (h : o ≠ .reg .a) : o.same s (t.setA v) ↔ o.same s t := same_setReg8 .a v h

@[simp] theorem same_setBc (v : Word) (hb : o ≠ .reg .b) (hc : o ≠ .reg .c) : o.same s (t.setBc v) ↔ o.same s t := by
  casesm* Slot, Reg8, Part <;> simp [same, Part.same, State.reg8] at hb hc ⊢

@[simp] theorem same_setDe (v : Word) (hd : o ≠ .reg .d) (he : o ≠ .reg .e) : o.same s (t.setDe v) ↔ o.same s t := by
  casesm* Slot, Reg8, Part <;> simp [same, Part.same, State.reg8] at hd he ⊢

@[simp] theorem same_setHl (v : Word) (hh : o ≠ .reg .h) (hl : o ≠ .reg .l) : o.same s (t.setHl v) ↔ o.same s t := by
  casesm* Slot, Reg8, Part <;> simp [same, Part.same, State.reg8] at hh hl ⊢

@[simp] theorem same_setAf (v : Word) (h : o ≠ .reg .a) : o.same s (t.setAf v) ↔ o.same s t := by
  casesm* Slot, Reg8, Part <;> simp [same, Part.same, State.reg8] at h ⊢

/-- A pair is its two registers, or SP (R103). -/
@[simp] theorem same_setRp (p : RPair) (v : Word) (hr : o ∉ (pairRegs p).map Slot.reg)
    (hp : o ∉ (spPart p).map Slot.part) : o.same s (t.setRp p v) ↔ o.same s t := by
  cases p with
  | bc | de | hl => simp [pairRegs] at hr; simp [State.setRp, hr]
  | sp => casesm* Slot, Reg8, Part <;> simp [spPart, State.setRp, same, Part.same, State.reg8] at hp ⊢

@[simp] theorem same_setRp2 (p : RPair2) (v : Word) (hr : o ∉ (stackPairRegs p).map Slot.reg) :
    o.same s (t.setRp2 p v) ↔ o.same s t := by
  cases p <;> simp [stackPairRegs] at hr <;> simp [State.setRp2, hr]

/-- An operand of the index table is one of the seven registers or a half of the index register (R350). -/
@[simp] theorem same_setXReg (xy : Idx) (k : XReg) (v : Byte) (hr : o ∉ (xregRegs k).map Slot.reg)
    (hp : o ∉ (xregParts xy k).map Slot.part) : o.same s (t.setXReg xy k v) ↔ o.same s t := by
  cases k with
  | xyh | xyl => simp [xregParts] at hp; simp [State.setXReg, State.setXyH, State.setXyL, hp]
  | b | c | d | e | a =>
    simp only [xregRegs, List.map_singleton, List.mem_singleton] at hr
    exact same_setReg8 _ v hr

/-- CP keeps no result (R258). -/
@[simp] theorem same_alu (op : AluOp) (v : Byte) (h : o ∉ (aluRegs op).map Slot.reg) :
    o.same s (t.alu op v) ↔ o.same s t := by
  cases op with
  | cp => exact same_setFlags _
  | add | adc | sub | sbc | and | xor | or =>
    simp only [aluRegs, List.map_singleton, List.mem_singleton] at h
    exact (same_setFlags (t := t.setA _) _).trans (same_setA _ h)

/-! ### The composed operations -/

@[simp] theorem same_sawRead16 (x : Word) (h : o ≠ .part .reads) : o.same s (t.sawRead16 x) ↔ o.same s t := by
  simp [State.sawRead16, h]

@[simp] theorem same_writeWord (x v : Word) : o.same s (t.writeWord x v) ↔ o.same s t := by simp [State.writeWord]

@[simp] theorem same_swapTop (v : Word) (h : o ≠ .part .reads) : o.same s (t.swapTop v) ↔ o.same s t := by
  simp [State.swapTop, h]

@[simp] theorem same_callTo (x : Word) (h : o ≠ .part .sp) : o.same s (t.callTo x) ↔ o.same s t := by
  simp [State.callTo, h]

@[simp] theorem same_returnPc (hsp : o ≠ .part .sp) (hr : o ≠ .part .reads) : o.same s t.returnPc ↔ o.same s t := by
  simp [State.returnPc, hsp, hr]

@[simp] theorem same_returnNmi (hsp : o ≠ .part .sp) (hr : o ≠ .part .reads) (hi : o ≠ .part .iff1) :
    o.same s t.returnNmi ↔ o.same s t := by
  have h : o.same s t.returnNmi ↔ o.same s t.returnPc := by
    casesm* Slot, Reg8, Part <;> simp [same, Part.same, State.reg8, State.returnNmi] at hi ⊢
  rw [h, same_returnPc hsp hr]

@[simp] theorem same_formEa (xy : Idx) (d : Byte) (h : o ≠ .part .addrReg) : o.same s (t.formEa xy d) ↔ o.same s t := by
  simp [State.formEa, h]

@[simp] theorem same_setXyH (xy : Idx) (v : Byte) (h : o ≠ .part (xyPart xy)) :
    o.same s (t.setXyH xy v) ↔ o.same s t := by
  simp [State.setXyH, h]

@[simp] theorem same_setXyL (xy : Idx) (v : Byte) (h : o ≠ .part (xyPart xy)) :
    o.same s (t.setXyL xy v) ↔ o.same s t := by
  simp [State.setXyL, h]

@[simp] theorem same_rotA (k : Rot) (h : o ≠ .reg .a) : o.same s (t.rotA k) ↔ o.same s t := by simp [State.rotA, h]

@[simp] theorem same_rotReg (k : Rot) (r : Reg8) (h : o ≠ .reg r) : o.same s (t.rotReg k r) ↔ o.same s t := by
  simp [State.rotReg, h]

@[simp] theorem same_modifyByte (x : Word) (g : Byte → Byte × Flags) (h : o ≠ .part .reads) :
    o.same s (t.modifyByte x g) ↔ o.same s t := by
  simp [State.modifyByte, h]

@[simp] theorem same_rotMem (k : Rot) (x : Word) (h : o ≠ .part .reads) : o.same s (t.rotMem k x) ↔ o.same s t :=
  same_modifyByte x _ h

@[simp] theorem same_mapByte (x : Word) (g : Byte → Byte) (h : o ≠ .part .reads) :
    o.same s (t.mapByte x g) ↔ o.same s t := by
  simp [State.mapByte, h]

@[simp] theorem same_testMem (b : Fin 8) (x : Word) (h : o ≠ .part .reads) : o.same s (t.testMem b x) ↔ o.same s t := by
  simp [State.testMem, h]

@[simp] theorem same_nibbleRotate (mem acc : Byte) (hr : o ≠ .part .reads) (ha : o ≠ .reg .a) :
    o.same s (t.nibbleRotate mem acc) ↔ o.same s t := by
  simp [State.nibbleRotate, hr, ha]

@[simp] theorem same_repeatWhile (again : Bool) : o.same s (t.repeatWhile again) ↔ o.same s t := by
  cases again with
  | true => casesm* Slot, Reg8, Part <;> rfl
  | false => rfl

theorem same_blockCopy (dir : Word) (h : o ∉ changedSlots .ldi) : o.same s (s.blockCopy dir) := by
  simp [changedSlots, destRegs, changedParts] at h
  simp [State.blockCopy, h]

theorem same_blockCompare (dir : Word) (h : o ∉ changedSlots .cpi) : o.same s (s.blockCompare dir) := by
  simp [changedSlots, destRegs, changedParts] at h
  simp [State.blockCompare, h]

/-- What a block-I/O iteration does to its registers, whichever way the byte goes. -/
theorem same_blockIoStep (dir : Word) (hb : o ≠ .reg .b) (hh : o ≠ .reg .h) (hl : o ≠ .reg .l)
    (ha : o ≠ .part .addrReg) : o.same s (t.blockIoStep dir) ↔ o.same s t := by
  have h : o.same s (t.blockIoStep dir) ↔ o.same s ((t.setHl (t.hl + dir)).setReg8 .b (t.b - 1)) := by
    simp [State.blockIoStep, State.setReg8, ha]
  simp [h, hb, hh, hl]

theorem same_blockIn (dir : Word) (h : o ∉ changedSlots .ini) : o.same s (s.blockIn dir) := by
  simp [changedSlots, destRegs, changedParts] at h
  simp [State.blockIn, same_blockIoStep, h]

theorem same_blockOut (dir : Word) (h : o ∉ changedSlots .outi) : o.same s (s.blockOut dir) := by
  simp [changedSlots, destRegs, changedParts] at h
  simp [State.blockOut, same_blockIoStep, h]

end Slot

end Sys2Proof.Machine
end

section
/-! SUPPORT. The frames of the registers and of the parts, from one lemma over every instruction (10_state.md R43). -/

namespace Sys2Proof.Machine

/-- A complete instruction changes no slot but its own. -/
theorem runComplete_same (i : Instr) {s t : State} {o : Slot} (h : runComplete i s = .next t)
    (ho : o ∉ changedSlots i.core) : o.same s t := by
  induction i with
  | fallback xy i ih => exact ih h ho
  | prefixCB | prefixED | prefixXY | prefixXyCB => cases h
  | jpCc | jrCc | callCc | retCc =>
    cases h
    simp [changedSlots, destRegs, changedParts, Instr.core] at ho
    split <;> simp [ho]
  | djnz =>
    cases h
    simp [changedSlots, destRegs, changedParts, Instr.core] at ho
    have hb : o.same s { s with b := s.b - 1 } := (Slot.same_setReg8 .b _ ho).2 Slot.same_refl
    split
    · exact hb
    · exact (Slot.same_surcharge _).2 ((Slot.same_jump _).2 hb)
  | ldi | ldd => cases h; exact Slot.same_blockCopy _ ho
  | cpi | cpd => cases h; exact Slot.same_blockCompare _ ho
  | ini | ind => cases h; exact Slot.same_blockIn _ ho
  | outi | outd => cases h; exact Slot.same_blockOut _ ho
  | ldir | lddr => cases h; exact (Slot.same_repeatWhile _).2 (Slot.same_blockCopy _ ho)
  | cpir | cpdr => cases h; exact (Slot.same_repeatWhile _).2 (Slot.same_blockCompare _ ho)
  | inir | indr => cases h; exact (Slot.same_repeatWhile _).2 (Slot.same_blockIn _ ho)
  | otir | otdr => cases h; exact (Slot.same_repeatWhile _).2 (Slot.same_blockOut _ ho)
  | ldSpHl | ldSpXy | exAf | exx | halt | di | ei | im0 | im1 | im2 | ldIA | ldRA =>
    cases h
    casesm* Slot, Reg8, Part <;>
      simp [changedSlots, destRegs, changedParts, Instr.core, Slot.same, Part.same, State.reg8] at ho ⊢
  | ldRpImm p | incRp p | decRp p | ldRpAbs p =>
    cases h
    cases p <;> simp [changedSlots, destRegs, changedParts, Instr.core, pairRegs, spPart] at ho <;>
      simp [pairRegs, spPart, ho]
  | pop p =>
    cases h
    cases p <;> simp [changedSlots, destRegs, changedParts, Instr.core, stackPairRegs] at ho <;> simp [stackPairRegs, ho]
  | ldHalf xy dst =>
    cases h
    cases dst <;> simp [changedSlots, destRegs, changedParts, Instr.core, xregRegs, xregParts] at ho <;>
      simp [xregRegs, xregParts, ho]
  | aluXyH _ op | aluXyL _ op | aluXyD _ op =>
    cases h
    cases op <;> simp [changedSlots, destRegs, changedParts, Instr.core, aluRegs] at ho <;> simp [aluRegs, ho]
  | _ =>
    cases h
    simp [changedSlots, destRegs, changedParts, Instr.core] at ho
    simp [aluRegs, ho]

theorem exec_same {i : Instr} (hi : i.isPrefixRow = false) {s t : State} (h : exec i s = .next t) {o : Slot}
    (ho : o ∉ changedSlots i.core) : o.same s t :=
  runComplete_same i (exec_eq_runComplete hi s ▸ h) ho

/-- No instruction changes the requests, the mark of a hang or the parameters. -/
theorem exec_untouched {i : Instr} (hi : i.isPrefixRow = false) {s t : State} (h : exec i s = .next t) :
    Slot.untouched.same s t :=
  exec_same hi h (by simp [changedSlots])

theorem exec_part_same {i : Instr} (hi : i.isPrefixRow = false) {s t : State} (h : exec i s = .next t) {p : Part}
    (hp : p ∉ changedParts i.core) : p.same s t :=
  exec_same hi h (o := .part p) (by simpa [changedSlots] using hp)

/-- Settles O42: the registers among the slots. -/
theorem registerFrame : Obligations.RegisterFrame := by
  intro i s t hi h r hr
  exact exec_same hi h (o := .reg r) (by simpa [changedSlots] using hr)

/-- Settles O44: the parts among the slots, and the fields that no instruction touches. -/
theorem specialRegisterFrame : Obligations.SpecialRegisterFrame := by
  intro i s t hi h
  exact ⟨fun p hp => exec_part_same hi h hp, exec_untouched hi h⟩

end Sys2Proof.Machine
end

section
/-! SUPPORT. What an instruction and the interrupt state machine do to the control fields; every step keeps the state legal
(10_state.md R41). -/

namespace Sys2Proof.Machine

/-! ### The instructions that write a control field -/

/-- R, IM, the enable delay and the flip-flops each have few writers (R31, R34, R38, R33). -/
theorem writer_of_mem_changedParts (i : Instr) :
    ∀ p ∈ changedParts i,
      (p = .refresh → i = .ldRA) ∧ (p = .mode → i = .im0 ∨ i = .im1 ∨ i = .im2) ∧
        (p = .delay → i = .di ∨ i = .ei) ∧ (p = .iff1 → i = .di ∨ i = .retn) ∧ (p = .iff2 → i = .di) := by
  cases i with
  | ldRpImm p | incRp p | decRp p | ldRpAbs p => cases p <;> simp [changedParts, spPart]
  | ldHalf xy dst => cases xy <;> cases dst <;> simp [changedParts, xregParts, xyPart]
  | addXyRp xy | ldXyImm xy | incXy xy | decXy xy | ldXyAbs xy | exSpXy xy | popXy xy | incXyH xy | decXyH xy | ldXyHN xy
  | incXyL xy | decXyL xy | ldXyLN xy => cases xy <;> simp [changedParts, xyPart]
  | _ => simp [changedParts]

section
variable {i : Instr} {s t : State} (hi : i.isPrefixRow = false) (h : exec i s = .next t)
include hi h

theorem exec_core : runComplete i.core s = .next t := by
  rw [← runComplete_core, ← exec_eq_runComplete hi, h]

theorem exec_params : t.params = s.params := by
  obtain ⟨-, -, -, -, hp⟩ := exec_untouched hi h
  exact hp

/-- Only `LD R,A` writes R (R445). -/
theorem exec_refresh : t.r = s.r ∨ (i.core = .ldRA ∧ t.r = s.a) := by
  by_cases hp : Part.refresh ∈ changedParts i.core
  · obtain ⟨hw, -⟩ := writer_of_mem_changedParts i.core _ hp
    have hc := exec_core hi h
    rw [hw rfl] at hc
    cases hc
    exact .inr ⟨hw rfl, rfl⟩
  · exact .inl (exec_part_same hi h hp)

/-- No instruction gives IM the value 3 (R34). -/
theorem exec_im (hs : s.im ≠ 3) : t.im ≠ 3 := by
  by_cases hp : Part.mode ∈ changedParts i.core
  · have hc := exec_core hi h
    obtain ⟨-, hw, -⟩ := writer_of_mem_changedParts i.core _ hp
    obtain hw | hw | hw := hw rfl <;> rw [hw] at hc <;> cases hc <;> simp
  · have him : t.im = s.im := exec_part_same hi h hp
    rwa [him]

/-- The enable delay is kept, cancelled or loaded (R315, R316). -/
theorem exec_eiDelay : t.eiDelay = s.eiDelay ∨ t.eiDelay = 0 ∨ t.eiDelay = s.params.eiDelay := by
  by_cases hp : Part.delay ∈ changedParts i.core
  · have hc := exec_core hi h
    obtain ⟨-, -, hw, -⟩ := writer_of_mem_changedParts i.core _ hp
    obtain hw | hw := hw rfl <;> rw [hw] at hc <;> cases hc <;> simp
  · exact .inl (exec_part_same hi h hp)

/-- No instruction sets a flip-flop where both are clear (R316, R439). -/
theorem exec_flipFlops_clear (h1 : s.iff1 = false) (h2 : s.iff2 = false) : t.iff1 = false ∧ t.iff2 = false := by
  have hc := exec_core hi h
  constructor
  · by_cases hp : Part.iff1 ∈ changedParts i.core
    · obtain ⟨-, -, -, hw, -⟩ := writer_of_mem_changedParts i.core _ hp
      obtain hw | hw := hw rfl <;> rw [hw] at hc <;> cases hc
      · rfl
      · simpa [State.returnNmi] using h2
    · exact (exec_part_same hi h hp).trans h1
  · by_cases hp : Part.iff2 ∈ changedParts i.core
    · obtain ⟨-, -, -, -, hw⟩ := writer_of_mem_changedParts i.core _ hp
      rw [hw rfl] at hc
      cases hc
      rfl
    · exact (exec_part_same hi h hp).trans h2

end

/-! ### What an evaluation of the interrupt state machine can be -/

theorem im_cases (im : BitVec 2) : im = 0 ∨ im = 1 ∨ im = 2 ∨ im = 3 := by
  revert im
  decide

section
variable {s : State}

theorem acceptMaskable_of_im_zero (h : s.im = 0) : acceptMaskable s = modeZero s.takeMaskable := by simp [acceptMaskable, h]

theorem acceptMaskable_of_im_one (h : s.im = 1) : acceptMaskable s = .next s.takeMaskable.modeOne := by
  simp [acceptMaskable, h]

theorem acceptMaskable_of_im_two (h : s.im = 2) : acceptMaskable s = .next s.takeMaskable.modeTwo := by
  simp [acceptMaskable, h]

theorem acceptMaskable_of_im_three (h : s.im = 3) : acceptMaskable s = .next (s.diag (.unsupportedInterruptMode s.im)) := by
  simp [acceptMaskable, h]

end

theorem modeZero_of_decode {s : State} {i : Instr} {rest : List Byte}
    (h : decode s.params.edIoC [s.intData] = .ok (i, rest)) :
    modeZero s =
      andThen (exec i s) fun t =>
        .next
          { t with cycles := s.params.count (s.cycles + s.params.cycleTable.modeZero + baseCost s.params.cycleTable i) } := by
  rw [modeZero, h]

/-- A mode-0 acceptance that completes is the data byte's instruction and its cost (R510, R617). -/
theorem modeZero_eq_next {s t : State} (h : modeZero s = .next t) :
    ∃ i rest u, decode s.params.edIoC [s.intData] = .ok (i, rest) ∧ exec i s = .next u ∧
      t = { u with cycles := s.params.count (s.cycles + s.params.cycleTable.modeZero + baseCost s.params.cycleTable i) } := by
  cases hd : decode s.params.edIoC [s.intData] with
  | error e => rw [modeZero, hd] at h; cases h
  | ok p =>
    rw [modeZero_of_decode hd] at h
    obtain ⟨u, hu, ht⟩ := andThen_eq_next.1 h
    cases ht
    exact ⟨p.1, p.2, u, rfl, hu, rfl⟩

/-- Everything a maskable acceptance that completes can be: the data byte's instruction, mode 1 or 2, or the diagnostic. -/
theorem acceptMaskable_cases {s t : State} (h : acceptMaskable s = .next t) :
    modeZero s.takeMaskable = .next t ∨ t = s.takeMaskable.modeOne ∨ t = s.takeMaskable.modeTwo ∨
      t = s.diag (.unsupportedInterruptMode s.im) := by
  obtain him | him | him | him := im_cases s.im
  · rw [acceptMaskable_of_im_zero him] at h
    exact .inl h
  · rw [acceptMaskable_of_im_one him] at h
    cases h
    simp
  · rw [acceptMaskable_of_im_two him] at h
    cases h
    simp
  · rw [acceptMaskable_of_im_three him] at h
    cases h
    simp

/-- Everything an evaluation that completes can be: the count of the delay, then at most one acceptance (R507). -/
theorem interruptEval_cases {s t : State} (h : interruptEval s = .next t) :
    t = s.countDelay ∨ t = s.countDelay.acceptNmi ∨ acceptMaskable s.countDelay = .next t := by
  unfold interruptEval arbitrate at h
  split at h
  · cases h
    exact .inr (.inl rfl)
  · split at h
    · exact .inr (.inr h)
    · cases h
      exact .inl rfl

/-! ### The canonical memory -/

@[simp] theorem State.repeatWhile_mem (s : State) (again : Bool) : (s.repeatWhile again).mem = s.mem := by
  cases again <;> rfl

theorem State.wf_push16 {s : State} (h : s.mem.wf = true) (v : Word) : (s.push16 v).mem.wf = true := by
  rw [State.push16_eq]
  exact Memory.wf_write (Memory.wf_write h _ _) _ _

theorem State.wf_writeWord {s : State} (h : s.mem.wf = true) (x v : Word) : (s.writeWord x v).mem.wf = true :=
  State.wf_writeByte (State.wf_writeByte h _ _) _ _

theorem State.wf_swapTop {s : State} (h : s.mem.wf = true) (v : Word) : (s.swapTop v).mem.wf = true := by
  rw [State.swapTop_eq]
  exact Memory.wf_write (Memory.wf_write h _ _) _ _

theorem State.wf_blockCopy {s : State} (h : s.mem.wf = true) (dir : Word) : (s.blockCopy dir).mem.wf = true :=
  State.wf_writeByte (s := s.sawRead s.hl) h _ _

@[simp] theorem State.blockCompare_mem (s : State) (dir : Word) : (s.blockCompare dir).mem = s.mem := by
  simp [State.blockCompare]

theorem State.wf_blockIn {s : State} (h : s.mem.wf = true) (dir : Word) : (s.blockIn dir).mem.wf = true :=
  State.wf_writeByte (s := s.sawPortIn s.c) (by simpa using h) _ _

@[simp] theorem State.blockOut_mem (s : State) (dir : Word) : (s.blockOut dir).mem = s.mem := by
  simp [State.blockOut, State.blockIoStep]

/-- Every memory a complete instruction leaves is a canonical one written to, or as it was (R67). -/
theorem runComplete_wf (i : Instr) {s t : State} (h : runComplete i s = .next t) (hw : s.mem.wf = true) :
    t.mem.wf = true := by
  induction i with
  | fallback xy i ih => exact ih h
  | prefixCB | prefixED | prefixXY | prefixXyCB => cases h
  | jpCc | jrCc | callCc | retCc | djnz =>
    cases h
    split <;> simp [State.callTo, State.returnPc, State.afterPop, State.sawRead16, State.wf_push16, hw]
  | ldi | ldd | ldir | lddr => cases h; simpa using State.wf_blockCopy hw _
  | ini | ind | inir | indr => cases h; simpa using State.wf_blockIn hw _
  | cpi | cpd | cpir | cpdr | outi | outd | otir | otdr => cases h; simpa using hw
  | _ =>
    cases h
    simp [-State.writeByte_mem, State.wf_writeByte, State.wf_writeWord, State.wf_push16, State.wf_swapTop, State.sawRead16,
      State.afterPop, State.callTo, State.returnPc, State.returnNmi, State.formEa, State.setXyH, State.setXyL, State.alu,
      State.rotA, State.modifyByte, State.rotReg, State.rotMem, State.mapByte, State.testMem, State.nibbleRotate, hw]

/-! ### Legal states -/

/-- A counter that only counts stays within `CYCLE_WIDTH`. -/
theorem State.CountsTo.within {s t : State} (h : s.CountsTo t) (hs : s.params.count s.cycles = s.cycles) :
    t.params.count t.cycles = t.cycles := by
  obtain ⟨hp, ht | ⟨n, ht⟩⟩ := h
  · rw [hp, ht, hs]
  · rw [hp, ht, Params.count_count]

/-- A state is legal where IM and the delay are as in a legal one, memory is canonical and the counter only counted. -/
theorem State.legal.of_countsTo {s t : State} (hs : s.legal) (hc : s.CountsTo t) (hw : t.mem.wf = true) (him : t.im = s.im)
    (hd : t.eiDelay = s.eiDelay) : t.legal := by
  obtain ⟨-, him3, hdelay, hcount⟩ := hs
  exact ⟨hw, him ▸ him3, by rw [hd, hc.1]; exact hdelay, hc.within hcount⟩

theorem State.legal.tick {s : State} (hs : s.legal) (n : Nat) : (s.tick n).legal :=
  hs.of_countsTo (.tick (.of_eq rfl rfl) n) hs.1 rfl rfl

theorem State.legal.countDelay {s : State} (hs : s.legal) : s.countDelay.legal := by
  obtain ⟨hw, him, hd, hc⟩ := hs
  unfold State.countDelay
  split
  · exact ⟨hw, him, hd, hc⟩
  · exact ⟨hw, him, Nat.zero_le _, hc⟩
  · next n hn => exact ⟨hw, him, by rw [hn] at hd; exact Nat.le_of_succ_le hd, hc⟩

theorem State.legal.enterHandler {s : State} (hs : s.legal) (entry : Word) : (s.enterHandler entry).legal :=
  hs.of_countsTo (s.countsTo_enterHandler entry)
    (by simpa [State.enterHandler, State.callTo] using State.wf_push16 hs.1 s.pc)
    (by simp [State.enterHandler, State.callTo_eq, State.push16_eq])
    (by simp [State.enterHandler, State.callTo_eq, State.push16_eq])

theorem State.legal.enterVector {s : State} (hs : s.legal) : s.enterVector.legal :=
  hs.of_countsTo s.countsTo_enterVector
    (by simpa [State.enterVector, State.sawRead16] using State.wf_push16 hs.1 s.pc)
    (by simp [State.enterVector, State.sawRead16_eq, State.push16_eq])
    (by simp [State.enterVector, State.sawRead16_eq, State.push16_eq])

theorem State.legal.takeMaskable {s : State} (hs : s.legal) : s.takeMaskable.legal := hs

theorem State.legal.acceptNmi {s : State} (hs : s.legal) : s.acceptNmi.legal :=
  State.legal.tick (State.legal.enterHandler (s := { s.wakeMasked false with nmiPending := false }) hs nmiEntry) _

theorem exec_legal {i : Instr} {io : Bool} (hi : i.core.complete io) {s t : State} (h : exec i s = .next t) (hs : s.legal) :
    t.legal := by
  have hrow := Instr.isPrefixRow_of_core hi.2
  obtain ⟨hw, him, hd, hc⟩ := hs
  refine ⟨runComplete_wf i (exec_eq_runComplete hrow s ▸ h) hw, exec_im hrow h him, ?_, (exec_countsTo hi h).within hc⟩
  rw [exec_params hrow h]
  obtain ht | ht | ht := exec_eiDelay hrow h <;> omega

theorem acceptMaskable_legal {s t : State} (h : acceptMaskable s = .next t) (hs : s.legal) : t.legal := by
  obtain hz | rfl | rfl | rfl := acceptMaskable_cases h
  · obtain ⟨i, rest, u, hd, hu, rfl⟩ := modeZero_eq_next hz
    have hi := decode_core_complete _ _ _ _ hd
    obtain ⟨hw, him, hdelay, -⟩ := exec_legal hi hu hs.takeMaskable
    refine ⟨hw, him, hdelay, ?_⟩
    have hp := exec_params (Instr.isPrefixRow_of_core hi.2) hu
    rw [hp]
    exact Params.count_count _ _
  · exact (hs.takeMaskable.enterHandler _).tick _
  · exact hs.takeMaskable.enterVector.tick _
  · exact hs

theorem interruptEval_legal {s t : State} (h : interruptEval s = .next t) (hs : s.legal) : t.legal := by
  obtain rfl | rfl | ha := interruptEval_cases h
  · exact hs.countDelay
  · exact hs.countDelay.acceptNmi
  · exact acceptMaskable_legal ha hs.countDelay

theorem State.legal.incR {s : State} (hs : s.legal) : s.incR.legal := hs.of_countsTo (.of_eq rfl rfl) hs.1 rfl rfl

theorem State.legal.hangOn {s : State} (hs : s.legal) : s.hangOn.legal := hs.of_countsTo (.of_eq rfl rfl) hs.1 rfl rfl

theorem State.legal.fetch {s : State} (hs : s.legal) (n : Nat) : (s.fetch n).legal :=
  hs.of_countsTo (s.countsTo_fetch n) (by rw [State.fetch_eq]; exact hs.1) (by rw [State.fetch_eq]) (by rw [State.fetch_eq])

/-- Settles O56: by what a step can be, with the instruction and the interrupt state machine each keeping the state legal. -/
theorem stepKeepsLegal : Obligations.StepKeepsLegal := by
  intro s t hs h
  obtain ⟨-, hst⟩ | ⟨-, -, hst⟩ | ⟨-, -, i, hi, hst⟩ | ⟨-, -, -, hst⟩ := step_cases s <;> rw [hst] at h
  · cases h
    exact hs.hangOn
  · exact interruptEval_legal h (hs.incR.tick haltedCost)
  · obtain ⟨v, hv, h⟩ := andThen_eq_next.1 h
    obtain ⟨u, hu, hv⟩ := andThen_eq_next.1 hv
    cases hv
    exact interruptEval_legal h ((exec_legal (instrAt_core_complete hi) hu (hs.incR.fetch i.size)).tick _)
  · cases h
    exact hs.incR.hangOn

theorem Params.count_zero (p : Params) : p.count 0 = 0 := by
  unfold Params.count
  split <;> simp

theorem State.legal.resetWith {s : State} (hs : s.legal) (w : ResetDraw) : (s.resetWith w).legal :=
  ⟨hs.1, by simp [State.resetWith, State.reset], Nat.zero_le _, Params.count_zero _⟩

/-- Settles O57: the reset values are legal with any memory that is canonical. -/
theorem resetIsLegal : Obligations.ResetIsLegal :=
  ⟨⟨rfl, by decide, Nat.zero_le _, rfl⟩, fun _ w hs => hs.resetWith w, rfl⟩

end Sys2Proof.Machine
end

section
/-! SUPPORT. The flags after each composed operation, and their frame by the table of flag effects (10_state.md R45). -/

namespace Sys2Proof.Machine

/-! ### The flags after an operation -/

namespace State

variable (s : State)

@[simp] theorem sawRead16_f (x : Word) : (s.sawRead16 x).f = s.f := rfl
@[simp] theorem writeWord_f (x v : Word) : (s.writeWord x v).f = s.f := rfl
@[simp] theorem push16_f (v : Word) : (s.push16 v).f = s.f := rfl
@[simp] theorem afterPop_f : s.afterPop.f = s.f := rfl
@[simp] theorem swapTop_f (v : Word) : (s.swapTop v).f = s.f := by simp [swapTop]
@[simp] theorem callTo_f (x : Word) : (s.callTo x).f = s.f := by simp [callTo]
@[simp] theorem returnPc_f : s.returnPc.f = s.f := by simp [returnPc]
@[simp] theorem returnNmi_f : s.returnNmi.f = s.f := by simp [returnNmi]
@[simp] theorem formEa_f (xy : Idx) (d : Byte) : (s.formEa xy d).f = s.f := rfl
@[simp] theorem setXyH_f (xy : Idx) (v : Byte) : (s.setXyH xy v).f = s.f := s.setXy_f xy _
@[simp] theorem setXyL_f (xy : Idx) (v : Byte) : (s.setXyL xy v).f = s.f := s.setXy_f xy _
@[simp] theorem mapByte_f (x : Word) (g : Byte → Byte) : (s.mapByte x g).f = s.f := rfl
@[simp] theorem alu_f (op : AluOp) (v : Byte) : (s.alu op v).f = (aluByte op s.f s.a v).2 := rfl
@[simp] theorem rotA_f (k : Rot) :
    (s.rotA k).f = accRotFlags s.f (rotResult k s.a s.f.c) (rotCarry k s.a) := rfl
@[simp] theorem modifyByte_f (x : Word) (g : Byte → Byte × Flags) : (s.modifyByte x g).f = (g (s.peek x)).2 := rfl
@[simp] theorem testMem_f (b : Fin 8) (x : Word) :
    (s.testMem b x).f = bitTest s.f b (s.peek x) (hiByte s.addrReg) := rfl
@[simp] theorem nibbleRotate_f (mem acc : Byte) : (s.nibbleRotate mem acc).f = loadFlags s.f acc := rfl
@[simp] theorem blockCopy_f (dir : Word) :
    (s.blockCopy dir).f = copyFlags s.f (s.a + s.peek s.hl) (s.bc - 1 != 0) := rfl
@[simp] theorem blockCompare_f (dir : Word) :
    (s.blockCompare dir).f = blockCompareFlags s.f s.a (s.peek s.hl) (s.bc - 1 != 0) := rfl
@[simp] theorem blockIoStep_f (dir : Word) : (s.blockIoStep dir).f = blockIoFlags s.f (s.b - 1) := rfl
@[simp] theorem blockIn_f (dir : Word) : (s.blockIn dir).f = blockIoFlags s.f (s.b - 1) := by simp [blockIn]
@[simp] theorem blockOut_f (dir : Word) : (s.blockOut dir).f = blockIoFlags s.f (s.b - 1) := rfl
@[simp] theorem repeatWhile_f (again : Bool) : (s.repeatWhile again).f = s.f := by cases again <;> rfl

end State

/-! ### Every instruction -/

/-- The flags the table marks unchanged are those the instruction's flag helper takes from the old flags. -/
theorem runComplete_keptFlags (i : Instr) {s t : State} (h : runComplete i s = .next t) :
    ∀ g ∈ keptFlags i.core, g t.f = g s.f := by
  induction i with
  | fallback xy i ih => exact ih h
  | prefixCB | prefixED | prefixXY | prefixXyCB => cases h
  | jpCc | jrCc | callCc | retCc | djnz =>
    cases h
    split <;> simp
  | pop p => cases h; cases p <;> simp [keptFlags, popFlags, Instr.core, State.setRp2]
  | incR | incM | decR | decM | incXyH | decXyH | incXyL | decXyL | incXyD | decXyD =>
    cases h
    simp [keptFlags, Instr.core, incByte, decByte]
  | bitR | bitM | bitXyD | ldAI | ldAR | rld | rrd | inRC =>
    cases h
    simp [keptFlags, Instr.core, bitTest, vectorFlags, loadFlags, flagsOf]
  | addHlRp | addXyRp | rlca | rrca | rla | rra | scf | ccf | cpl | daa =>
    cases h
    simp [keptFlags, Instr.core, addWord, accRotFlags, bcdCorrect, flagsOf]
  | ldi | ldd | ldir | lddr | cpi | cpd | cpir | cpdr =>
    cases h
    simp [keptFlags, Instr.core, copyFlags, blockCompareFlags]
  | ini | ind | inir | indr | outi | outd | otir | otdr =>
    cases h
    simp [keptFlags, Instr.core, blockIoFlags]
  | _ =>
    cases h
    simp [keptFlags, Instr.core]

/-- Settles O43: by the flag helper of each form. -/
theorem flagFrame : Obligations.FlagFrame := by
  intro i s t hi h
  exact runComplete_keptFlags i (exec_eq_runComplete hi s ▸ h)

end Sys2Proof.Machine
end

section
/-! SUPPORT. What reads the undocumented flags fY and fX (10_state.md R44). -/

namespace Sys2Proof.Machine

/-! ### The operations that do not come down to one record -/

namespace State

variable (s : State) (y x : Bool)

/-- No condition reads fY or fX (R320). -/
theorem holds_withYX (cc : Cond) : (s.withYX y x).f.holds cc = s.f.holds cc := by cases cc <;> rfl

theorem moreB_withYX : (s.withYX y x).moreB = s.moreB := rfl

theorem sawPortIn_withYX (port : Byte) : (s.withYX y x).sawPortIn port = (s.sawPortIn port).withYX y x := by
  rw [sawPortIn_eq, sawPortIn_eq]
  rfl

theorem repeatWhile_withYX (again : Bool) : (s.withYX y x).repeatWhile again = (s.repeatWhile again).withYX y x := by
  cases again <;> rfl

/-- A run that comes to the same state, both flags overwritten, is one that differs at most in them. -/
theorem exists_next_withYX :
    ∃ y x, (.next s : Host.Outcome State Fault Refusal) = .next (s.withYX y x) := ⟨s.f.y, s.f.x, rfl⟩

theorem blockIn_withYX (dir : Word) : (s.withYX y x).blockIn dir = (s.blockIn dir).withYX y x := by
  rw [blockIn, sawPortIn_withYX]
  rfl

theorem blockOut_withYX (dir : Word) : (s.withYX y x).blockOut dir = (s.blockOut dir).withYX y x := rfl

end State

/-! ### Every instruction -/

/-- With other flags fY and fX an instruction comes to the same record but for those two: it hands them on, or it overwrites
them, and reads neither. -/
theorem runComplete_withYX (i : Instr) {s t : State} (y x : Bool) (h : runComplete i s = .next t)
    (hpush : i.core ≠ .push .af) (hex : i.core ≠ .exAf) :
    ∃ y' x', runComplete i (s.withYX y x) = .next (t.withYX y' x') := by
  induction i with
  | fallback xy i ih => exact ih h hpush hex
  | prefixCB | prefixED | prefixXY | prefixXyCB => cases h
  | exAf => exact absurd rfl hex
  | push p =>
    cases p with
    | af => exact absurd rfl hpush
    | bc | de | hl => cases h; exact ⟨_, _, rfl⟩
  | jpCc cc | jrCc cc | callCc cc | retCc cc =>
    cases h
    refine ⟨y, x, ?_⟩
    change Host.Outcome.next (if (s.withYX y x).f.holds cc then _ else _) = _
    rw [State.holds_withYX]
    split <;> rfl
  | djnz =>
    cases h
    refine ⟨y, x, ?_⟩
    change Host.Outcome.next (if s.b - 1 = 0 then _ else _) = _
    split <;> rfl
  | inAN =>
    cases h
    refine ⟨y, x, ?_⟩
    change Host.Outcome.next (((s.withYX y x).sawPortIn _).setA _) = _
    rw [State.sawPortIn_withYX]
    rfl
  | inRC r =>
    cases h
    refine ⟨(loadFlags s.f (s.portValue s.c)).y, (loadFlags s.f (s.portValue s.c)).x, ?_⟩
    change Host.Outcome.next ((((s.withYX y x).sawPortIn _).setReg8 r _).setFlags _) = _
    rw [State.sawPortIn_withYX]
    cases r <;> rfl
  | ini | ind => cases h; exact ⟨y, x, congrArg Host.Outcome.next (s.blockIn_withYX y x _)⟩
  | ldir | lddr =>
    cases h
    exact State.exists_next_withYX ((s.blockCopy _).repeatWhile _)
  | cpir | cpdr =>
    cases h
    exact State.exists_next_withYX ((s.blockCompare _).repeatWhile _)
  | inir | indr =>
    cases h
    refine ⟨y, x, ?_⟩
    change Host.Outcome.next (((s.withYX y x).blockIn _).repeatWhile ((s.withYX y x).blockIn _).moreB) = _
    rw [State.blockIn_withYX, State.moreB_withYX, State.repeatWhile_withYX]
  | otir | otdr =>
    cases h
    refine ⟨y, x, ?_⟩
    change Host.Outcome.next (((s.withYX y x).blockOut _).repeatWhile ((s.withYX y x).blockOut _).moreB) = _
    rw [State.blockOut_withYX, State.moreB_withYX, State.repeatWhile_withYX]
  | ldRR r | ldRN r | ldRM r | incR r | decR r | rlcR r | rrcR r | rlR r | rrR r | slaR r | sraR r | sllR r | srlR r | resR _ r
  | setR _ r | ldRXyD _ r => cases h; cases r <;> exact ⟨_, _, rfl⟩
  | ldRpImm p | incRp p | decRp p | ldRpAbs p | pop p => cases h; cases p <;> exact ⟨_, _, rfl⟩
  | ldXyImm xy | ldXyAbs xy | incXy xy | decXy xy | addXyRp xy | incXyH xy | decXyH xy | ldXyHN xy | incXyL xy | decXyL xy
  | ldXyLN xy | popXy xy | exSpXy xy => cases h; cases xy <;> exact ⟨_, _, rfl⟩
  | ldHalf xy dst => cases h; cases xy <;> cases dst <;> exact ⟨_, _, rfl⟩
  | _ => cases h; exact ⟨_, _, rfl⟩

/-- Settles O46: by the records the two runs of each form come to. -/
theorem undocumentedFlagsAreReadByNothingElse : Obligations.UndocumentedFlagsAreReadByNothingElse := by
  intro i s t y x hi hpush hex h
  rw [exec_eq_runComplete hi] at h ⊢
  exact runComplete_withYX i y x h hpush hex

end Sys2Proof.Machine
end

section
/-! SUPPORT. The packed flag byte (10_state.md R23, R24), the enable delay (R38) and the count of R (R31). -/

namespace Sys2Proof.Machine

/-! ### The packed flag byte -/

theorem Flags.getLsbD_pack (f : Flags) :
    f.pack.getLsbD 7 = f.s ∧ f.pack.getLsbD 6 = f.z ∧ f.pack.getLsbD 5 = f.y ∧ f.pack.getLsbD 4 = f.h ∧
      f.pack.getLsbD 3 = f.x ∧ f.pack.getLsbD 2 = f.pv ∧ f.pack.getLsbD 1 = f.n ∧ f.pack.getLsbD 0 = f.c := by
  obtain ⟨s, z, y, h, x, pv, n, c⟩ := f
  revert s z y h x pv n c
  decide

@[simp] theorem Flags.unpack_pack (f : Flags) : Flags.unpack f.pack = f := by simp only [Flags.unpack, f.getLsbD_pack]

@[simp] theorem Flags.pack_unpack (v : Byte) : (Flags.unpack v).pack = v := by
  revert v
  decide

/-- Settles O7: each bit by the flag it packs, and the two round trips. -/
theorem packedFlagByte : Obligations.PackedFlagByte := ⟨Flags.getLsbD_pack, Flags.unpack_pack, Flags.pack_unpack⟩

/-! ### The enable delay -/

/-- The count of the delay as one record: at the end of the delay both flip-flops are set (R507). -/
theorem State.countDelay_eq (s : State) :
    s.countDelay =
      { s with eiDelay := s.eiDelay - 1, iff1 := s.iff1 || s.eiDelay == 1, iff2 := s.iff2 || s.eiDelay == 1 } := by
  unfold State.countDelay
  split
  · next h =>
    simp [h]
    rw [← h]
  · next h => simp [h]
  · next n h => simp [h]

theorem State.countDelay_of_one {s : State} (h : s.eiDelay = 1) :
    s.countDelay = { s with eiDelay := 0, iff1 := true, iff2 := true } := by
  simp [State.countDelay, h]

theorem State.countDelay_of_two_le {s : State} (h : 2 ≤ s.eiDelay) :
    s.countDelay = { s with eiDelay := s.eiDelay - 1 } := by
  have h1 : s.eiDelay ≠ 1 := by omega
  simp [State.countDelay_eq, h1]

@[simp] theorem State.countDelay_nmiPending (s : State) : s.countDelay.nmiPending = s.nmiPending := by rw [s.countDelay_eq]

@[simp] theorem State.countDelay_intPending (s : State) : s.countDelay.intPending = s.intPending := by rw [s.countDelay_eq]

@[simp] theorem State.countDelay_r (s : State) : s.countDelay.r = s.r := by rw [s.countDelay_eq]

theorem State.maskableDue_eq_true {s : State} :
    s.maskableDue = true ↔ s.intPending = true ∧ s.iff1 = true ∧ s.eiDelay = 0 := by
  simp [State.maskableDue, and_assoc]

/-- Where nothing is accepted, the evaluation only counts the delay (R507). -/
theorem interruptEval_of_not_due {s : State} (hn : s.nmiPending = false) (hd : ¬ s.countDelay.maskableDue = true) :
    interruptEval s = .next s.countDelay := by
  simp [interruptEval, arbitrate, hn, hd]

theorem interruptEval_of_due {s : State} (hn : s.nmiPending = false) (hd : s.countDelay.maskableDue = true) :
    interruptEval s = acceptMaskable s.countDelay := by
  simp [interruptEval, arbitrate, hn, hd]

/-- Settles O51: by the record the count of the delay comes to, and no request due. -/
theorem enableDelayCountsDown : Obligations.EnableDelayCountsDown := by
  intro s
  refine ⟨?_, fun hn hd => interruptEval_of_not_due hn ?_⟩
  · split
    · next h => simp [State.countDelay, h]
    · split
      · next h => exact State.countDelay_of_one h
      · exact State.countDelay_of_two_le (by omega)
  · rw [State.maskableDue_eq_true, State.countDelay_intPending]
    rintro ⟨hi, h1, h0⟩
    obtain h | h | h := hd
    · rw [h] at hi; cases hi
    · rw [h] at h1; cases h1
    · exact h h0

/-! ### The end of the enable delay -/

/-- No complete instruction is refused (R516). -/
theorem runComplete_next (i : Instr) (h : i.core.isPrefixRow = false) (s : State) : ∃ t, runComplete i s = .next t := by
  induction i with
  | fallback xy i ih => exact ih h
  | prefixCB | prefixED | prefixXY | prefixXyCB => cases h
  | _ => exact ⟨_, rfl⟩

theorem exec_next {i : Instr} (h : i.core.isPrefixRow = false) (s : State) : ∃ t, exec i s = .next t := by
  rw [exec_eq_runComplete (Instr.isPrefixRow_of_core h)]
  exact runComplete_next i h s

/-- A mode-0 acceptance of a one-byte data byte completes, with no request left and both flip-flops clear (R509, R510). -/
theorem modeZero_takeMaskable {s : State} {i : Instr} {rest : List Byte}
    (hd : decode s.params.edIoC [s.intData] = .ok (i, rest)) :
    ∃ t, modeZero s.takeMaskable = .next t ∧ t.iff1 = false ∧ t.iff2 = false ∧ t.intPending = false := by
  have hi := (decode_core_complete _ _ _ _ hd).2
  have hrow := Instr.isPrefixRow_of_core hi
  obtain ⟨u, hu⟩ := exec_next hi s.takeMaskable
  obtain ⟨h1, h2⟩ := exec_flipFlops_clear hrow hu rfl (by simp [State.takeMaskable, State.wakeMasked])
  obtain ⟨-, hint, -⟩ := exec_untouched hrow hu
  have hz := modeZero_of_decode (s := s.takeMaskable) hd
  rw [hu, andThen_next] at hz
  exact ⟨_, hz, h1, h2, hint⟩

/-- An acceptance in mode 0, 1 or 2 leaves both flip-flops 0 and no request (R509); modes 1 and 2 say where it goes. -/
theorem acceptMaskable_clears {s : State} (him : s.im ≠ 3)
    (hz : s.im = 0 → ∃ i, decode s.params.edIoC [s.intData] = .ok (i, [])) :
    ∃ t, acceptMaskable s = .next t ∧ t.iff1 = false ∧ t.iff2 = false ∧ t.intPending = false ∧
      (s.im = 1 → t.pc = 0x0038) ∧ (s.im = 2 → t.pc = (s.push16 s.pc).peek16 (s.i ++ s.intData : BitVec (8 + 8))) := by
  obtain h | h | h | h := im_cases s.im
  · obtain ⟨i, hd⟩ := hz h
    obtain ⟨t, ht, h1, h2, hint⟩ := modeZero_takeMaskable hd
    exact ⟨t, (acceptMaskable_of_im_zero h).trans ht, h1, h2, hint, by simp [h], by simp [h]⟩
  · exact ⟨_, acceptMaskable_of_im_one h, rfl, Bool.and_false _, rfl, fun _ => rfl, by simp [h]⟩
  · exact ⟨_, acceptMaskable_of_im_two h, rfl, Bool.and_false _, rfl, by simp [h], fun _ => rfl⟩
  · exact absurd h him

/-- Settles O52: by whether a request is due once the delay has been counted, and then by the mode. -/
theorem enableDelayHoldsInterruptsOff : Obligations.EnableDelayHoldsInterruptsOff := by
  intro s hn
  refine ⟨fun h2 => ?_, fun h1 hint him hz => ?_, fun h1 hint => ?_⟩
  · have hu := State.countDelay_of_two_le h2
    rw [interruptEval_of_not_due hn, hu]
    rw [State.maskableDue_eq_true, hu]
    rintro ⟨-, -, h0⟩
    simp only at h0
    omega
  · have hu := State.countDelay_of_one h1
    have hdue : s.countDelay.maskableDue = true := by
      rw [State.maskableDue_eq_true, hu]
      exact ⟨hint, rfl, rfl⟩
    rw [interruptEval_of_due hn hdue, hu]
    exact acceptMaskable_clears (s := { s with eiDelay := 0, iff1 := true, iff2 := true }) him hz
  · have hu := State.countDelay_of_one h1
    rw [interruptEval_of_not_due hn, hu]
    rw [State.maskableDue_eq_true, State.countDelay_intPending, hint]
    simp

/-! ### The count of R -/

/-- The only instruction that writes R is of the extended table, which one byte does not reach (R110, R445). -/
theorem decode_byte_ne_ldRA {io : Bool} {b : Byte} {i : Instr} {rest : List Byte} (h : decode io [b] = .ok (i, rest)) :
    i.core ≠ .ldRA := by
  have hall : ∀ (io : Bool) (b : Byte), ∀ p ∈ (decode io [b]).toOption, p.1.core ≠ .ldRA := by decide
  exact hall io b (i, rest) (by rw [h]; rfl)

@[simp] theorem State.callTo_r (s : State) (x : Word) : (s.callTo x).r = s.r := by simp [State.callTo_eq, State.push16_eq]

@[simp] theorem State.takeMaskable_r (s : State) : s.takeMaskable.r = s.r := rfl

@[simp] theorem State.modeOne_r (s : State) : s.modeOne.r = s.r := by simp [State.modeOne, State.enterHandler]

@[simp] theorem State.modeTwo_r (s : State) : s.modeTwo.r = s.r := by
  simp [State.modeTwo, State.enterVector, State.sawRead16_eq, State.push16_eq]

@[simp] theorem State.acceptNmi_r (s : State) : s.acceptNmi.r = s.r := by
  simp [State.acceptNmi, State.takeNmi, State.enterHandler, State.wakeMasked]

theorem acceptMaskable_r {s t : State} (h : acceptMaskable s = .next t) : t.r = s.r := by
  obtain hz | rfl | rfl | rfl := acceptMaskable_cases h
  · obtain ⟨i, rest, u, hd, hu, rfl⟩ := modeZero_eq_next hz
    have hrow := Instr.isPrefixRow_of_core (decode_core_complete _ _ _ _ hd).2
    obtain hr | ⟨hi, -⟩ := exec_refresh hrow hu
    · exact hr
    · exact absurd hi (decode_byte_ne_ldRA hd)
  all_goals simp

/-- No evaluation of the interrupt state machine counts R (R504). -/
theorem interruptEval_r {s t : State} (h : interruptEval s = .next t) : t.r = s.r := by
  obtain rfl | rfl | ha := interruptEval_cases h
  · exact s.countDelay_r
  · simp
  · exact (acceptMaskable_r ha).trans s.countDelay_r

theorem step_of_hung {s : State} (h : s.hung = true) : step s = .next s.hangOn := by simp [step, stepOnce, h]

/-- After a step R holds its count, or what `LD R,A` gave it. -/
theorem step_r {s t : State} (hhung : s.hung = false) (h : step s = .next t) :
    t.r = s.incR.r ∨ (s.halted = false ∧ t.r = s.a ∧ ∃ i, s.instrAt = some i ∧ i.core = .ldRA) := by
  obtain ⟨hu, -⟩ | ⟨-, -, hst⟩ | ⟨-, hhalt, i, hi, hst⟩ | ⟨-, -, -, hst⟩ := step_cases s
  · rw [hhung] at hu
    cases hu
  · rw [hst] at h
    exact .inl (interruptEval_r h :)
  · rw [hst] at h
    obtain ⟨v, hv, h⟩ := andThen_eq_next.1 h
    obtain ⟨u, hu, hv⟩ := andThen_eq_next.1 hv
    cases hv
    have ht := interruptEval_r h
    rw [State.tick_r] at ht
    rw [State.fetch_eq] at hu
    obtain hr | ⟨hld, hr⟩ := exec_refresh (Instr.isPrefixRow_of_core (instrAt_core_complete hi).2) hu
    · exact .inl (ht.trans hr)
    · exact .inr ⟨hhalt, ht.trans hr, i, hi, hld⟩
  · rw [hst] at h
    cases h
    exact .inl rfl

/-- Settles O49: by what R can hold after a step, and the count in its low seven bits. -/
theorem refreshCountsOncePerStep : Obligations.RefreshCountsOncePerStep := by
  intro s t h
  refine ⟨fun hu => ?_, fun hu => (step_r hu h).imp_left fun hr => ?_⟩
  · rw [step_of_hung hu] at h
    cases h
    rfl
  · rw [hr]
    exact s.incR_seven

end Sys2Proof.Machine
end

section
/-! SUPPORT. How many bytes decide a decoding: the ignored index bytes and four more (30_encoding.md R100, R118; 44_index.md
R352, R353). -/

namespace Sys2Proof

/-! ### What decides an entry of the tables -/

/-- What the entry answers is decided by its first `n` bytes. -/
def DecidedBy (n : Nat) (entry : List Byte → Decoded) : Prop :=
  ∀ bs bs' i rest, entry bs = .ok (i, rest) → bs.take n <+: bs' → ∃ rest', entry bs' = .ok (i, rest')

theorem DecidedBy.mono {m n : Nat} {entry : List Byte → Decoded} (h : DecidedBy m entry) (hmn : m ≤ n) :
    DecidedBy n entry :=
  fun bs bs' i rest hd hp => h bs bs' i rest hd ((List.take_prefix_take_left hmn).trans hp)

/-- A list that begins as another one does has its head, and after it begins as that one's tail does. -/
theorem exists_cons_of_take_isPrefix {n : Nat} {b : Byte} {bs bs' : List Byte} (h : (b :: bs).take (n + 1) <+: bs') :
    ∃ tl, bs' = b :: tl ∧ bs.take n <+: tl := by
  obtain ⟨tl, rfl⟩ := h
  exact ⟨bs.take n ++ tl, rfl, List.prefix_append _ _⟩

@[simp] theorem decidedBy_noOperand (n : Nat) (i : Instr) : DecidedBy n (noOperand i) := by
  intro bs bs' j rest hd _
  cases hd
  exact ⟨bs', rfl⟩

theorem decidedBy_one_oneByte (f : Byte → Instr) : DecidedBy 1 (oneByte f) := by
  intro bs bs' i rest hd hp
  match bs with
  | [] => cases hd
  | b :: bs =>
    obtain ⟨tl, rfl, -⟩ := exists_cons_of_take_isPrefix hp
    cases hd
    exact ⟨tl, rfl⟩

@[simp] theorem decidedBy_oneByte (f : Byte → Instr) : DecidedBy 2 (oneByte f) :=
  (decidedBy_one_oneByte f).mono (by decide)

@[simp] theorem decidedBy_twoBytes (f : Byte → Byte → Instr) : DecidedBy 2 (twoBytes f) := by
  intro bs bs' i rest hd hp
  match bs with
  | [] | [_] => cases hd
  | b :: c :: bs =>
    obtain ⟨_, rfl, htl⟩ := exists_cons_of_take_isPrefix hp
    obtain ⟨tl, rfl, -⟩ := exists_cons_of_take_isPrefix htl
    cases hd
    exact ⟨tl, rfl⟩

@[simp] theorem decidedBy_immWord (f : Word → Instr) : DecidedBy 2 (immWord f) := by
  have h : immWord f = twoBytes fun lo hi => f (Machine.mkWord hi lo) := by
    funext bs
    match bs with
    | [] | [_] | _ :: _ :: _ => rfl
  rw [h]
  exact decidedBy_twoBytes _

@[simp] theorem decidedBy_barePrefix (n : Nat) : DecidedBy n barePrefix := nofun

/-! ### Two bytes decide every entry -/

theorem baseX0_decided (y z : Nat) : DecidedBy 2 (baseX0 y z) := by
  unfold baseX0
  split
  case h_4 | h_5 | h_6 => simp
  all_goals split <;> simp

theorem baseX3_decided (y z : Nat) : DecidedBy 2 (baseX3 y z) := by
  unfold baseX3
  split
  case h_2 | h_4 | h_6 => split <;> simp
  all_goals simp

theorem baseEntry_decided (op : Byte) : DecidedBy 2 (baseEntry op) := by
  unfold baseEntry
  split
  · exact baseX0_decided _ _
  · simp
  · simp
  · exact baseX3_decided _ _

theorem edX1_decided (io : Bool) (y z : Nat) : ∀ e ∈ edX1 io y z, DecidedBy 2 e := by
  unfold edX1
  split
  case h_3 | h_4 => simp
  all_goals split <;> simp

theorem edEntry_decided (io : Bool) (op : Byte) : ∀ e ∈ edEntry io op, DecidedBy 2 e := by
  unfold edEntry
  split
  · exact edX1_decided io _ _
  · simp
  · nofun

theorem decodeEd_decided (io : Bool) : DecidedBy 3 (decodeEd io) := by
  intro bs bs' i rest hd hp
  match bs with
  | [] => cases hd
  | op :: bs =>
    obtain ⟨tl, rfl, htl⟩ := exists_cons_of_take_isPrefix hp
    rw [decodeEd] at hd ⊢
    split at hd
    · next entry he => exact edEntry_decided io op entry he bs tl i rest hd htl
    · cases hd
      exact ⟨tl, rfl⟩

theorem indexX0_decided (xy : Idx) (y z : Nat) : ∀ e ∈ indexX0 xy y z, DecidedBy 2 e := by
  unfold indexX0
  split <;> simp

theorem indexX1_decided (xy : Idx) (y z : Nat) : ∀ e ∈ indexX1 xy y z, DecidedBy 2 e := by
  unfold indexX1
  split
  · split <;> simp
  all_goals simp

theorem indexX2_decided (xy : Idx) (y z : Nat) : ∀ e ∈ indexX2 xy y z, DecidedBy 2 e := by
  unfold indexX2
  split <;> simp

theorem indexX3_decided (xy : Idx) (y z : Nat) : ∀ e ∈ indexX3 xy y z, DecidedBy 2 e := by
  unfold indexX3
  split <;> simp

theorem indexEntry_decided (xy : Idx) (op : Byte) : ∀ e ∈ indexEntry xy op, DecidedBy 2 e := by
  unfold indexEntry
  split
  · exact indexX0_decided xy _ _
  · exact indexX1_decided xy _ _
  · exact indexX2_decided xy _ _
  · exact indexX3_decided xy _ _

/-! ### Runs of index bytes -/

/-- How many index bytes a list begins with. -/
def indexRun (bs : List Byte) : Nat := (bs.takeWhile fun b => (Idx.ofByte b).isSome).length

theorem indexRun_cons_of_index {b : Byte} {xy : Idx} (h : Idx.ofByte b = some xy) (bs : List Byte) :
    indexRun (b :: bs) = indexRun bs + 1 := by
  simp [indexRun, h]

theorem indexRun_cons_of_none {b : Byte} (h : Idx.ofByte b = none) (bs : List Byte) : indexRun (b :: bs) = 0 := by
  simp [indexRun, h]

theorem indexRun_le_append (bs tl : List Byte) : indexRun bs ≤ indexRun (bs ++ tl) := by
  induction bs with
  | nil => exact Nat.zero_le _
  | cons b bs ih =>
    cases h : Idx.ofByte b with
    | none => simp [indexRun_cons_of_none h]
    | some xy => simpa [indexRun_cons_of_index h] using ih

/-- Once a byte is no index byte, what comes after it does not lengthen the run. -/
theorem indexRun_append_of_mem {bs : List Byte} {b : Byte} (hb : b ∈ bs) (h : Idx.ofByte b = none) (tl : List Byte) :
    indexRun (bs ++ tl) = indexRun bs := by
  induction bs with
  | nil => cases hb
  | cons c bs ih =>
    cases hc : Idx.ofByte c with
    | none => simp [indexRun_cons_of_none hc]
    | some xy =>
      obtain rfl | hb := List.mem_cons.1 hb
      · rw [h] at hc; cases hc
      · simp [indexRun_cons_of_index hc, ih hb]

/-! ### What decides a decoding -/

/-- The ignored index bytes and four more decide what is decoded (R118, R352). -/
theorem decode_decided (io : Bool) {bs bs' : List Byte} {i : Instr} {rest : List Byte} (hd : decode io bs = .ok (i, rest))
    (hp : bs.take (indexRun bs + 4) <+: bs') : ∃ rest', decode io bs' = .ok (i, rest') := by
  induction bs generalizing bs' i rest with
  | nil => cases hd
  | cons b0 bs ih =>
    obtain ⟨tl, rfl, htl⟩ := exists_cons_of_take_isPrefix (n := indexRun (b0 :: bs) + 3) hp
    rw [decode] at hd ⊢
    split at hd
    · next hcb =>
      rw [if_pos hcb]
      exact (decidedBy_one_oneByte _).mono (by omega) _ _ _ _ hd htl
    · next hcb =>
      rw [if_neg hcb]
      split at hd
      · next hed =>
        rw [if_pos hed]
        exact (decodeEd_decided io).mono (by omega) _ _ _ _ hd htl
      · next hed =>
        rw [if_neg hed]
        split at hd
        · next xy hxy =>
          rw [indexRun_cons_of_index hxy] at htl
          match bs with
          | [] => cases hd
          | b1 :: bs =>
            obtain ⟨tl', rfl, htl'⟩ := exists_cons_of_take_isPrefix (n := indexRun (b1 :: bs) + 3) htl
            rw [decodeIndexed] at hd ⊢
            split at hd
            · next h =>
              rw [if_pos h]
              exact (decidedBy_twoBytes _).mono (by omega) _ _ _ _ hd htl'
            · next h =>
              rw [if_neg h]
              split at hd
              · next entry he => exact (indexEntry_decided xy b1 entry he).mono (by omega) _ _ _ _ hd htl'
              · cases hbase : decode io (b1 :: bs) with
                | error e => rw [hbase] at hd; cases hd
                | ok p =>
                  rw [hbase] at hd
                  cases hd
                  obtain ⟨rest', h'⟩ := ih hbase htl
                  exact ⟨rest', by rw [h']; rfl⟩
        · exact (baseEntry_decided b0).mono (by omega) _ _ _ _ hd htl

/-- No entry of the index table is reached by an index byte (R111). -/
theorem ofByte_eq_none_of_indexEntry {xy : Idx} {b : Byte} {entry : List Byte → Decoded}
    (h : indexEntry xy b = some entry) : Idx.ofByte b = none := by
  have hall : ∀ b : Byte, (indexEntry .ix b).isSome = true → Idx.ofByte b = none := by decide
  have hall' : ∀ b : Byte, (indexEntry .iy b).isSome = true → Idx.ofByte b = none := by decide
  cases xy with
  | ix => exact hall b (by rw [h]; rfl)
  | iy => exact hall' b (by rw [h]; rfl)

/-- What decodes is no run of index bytes alone (R353). -/
theorem exists_nonIndex_of_decode (io : Bool) {bs : List Byte} {i : Instr} {rest : List Byte}
    (hd : decode io bs = .ok (i, rest)) : ∃ b ∈ bs, Idx.ofByte b = none := by
  induction bs generalizing i rest with
  | nil => cases hd
  | cons b0 bs ih =>
    cases h0 : Idx.ofByte b0 with
    | none => exact ⟨b0, List.mem_cons_self, h0⟩
    | some xy =>
      have hcb : b0 ≠ 0xCB := by rintro rfl; cases h0
      have hed : b0 ≠ 0xED := by rintro rfl; cases h0
      rw [decode, if_neg hcb, if_neg hed, h0] at hd
      match bs with
      | [] => cases hd
      | b1 :: bs =>
        simp only [decodeIndexed] at hd
        split at hd
        · next h => exact ⟨b1, by simp, by rw [h]; rfl⟩
        · split at hd
          · next entry he => exact ⟨b1, by simp, ofByte_eq_none_of_indexEntry he⟩
          · cases hbase : decode io (b1 :: bs) with
            | error e => rw [hbase] at hd; cases hd
            | ok p =>
              obtain ⟨b, hb, hn⟩ := ih hbase
              exact ⟨b, List.mem_cons_of_mem _ hb, hn⟩

end Sys2Proof
end

section
/-! SUPPORT. The instruction at PC is what any window there decodes to, and the step that runs it (20_memory.md R65, R73;
60_exceptions.md R503). -/

namespace Sys2Proof.Machine

theorem State.bytesAt_isPrefix (s : State) {m n : Nat} (h : m ≤ n) (x : Word) : s.bytesAt m x <+: s.bytesAt n x := by
  induction m generalizing s n x with
  | zero => exact List.nil_prefix
  | succ m ih =>
    obtain ⟨n, rfl⟩ := Nat.exists_eq_succ_of_ne_zero (Nat.ne_zero_of_lt h)
    exact List.cons_prefix_cons.2 ⟨rfl, ih (s.sawRead x) (Nat.le_of_succ_le_succ h) (x + 1)⟩

theorem State.take_bytesAt (s : State) (m n : Nat) (x : Word) : (s.bytesAt n x).take m = s.bytesAt (min m n) x := by
  induction m generalizing s n x with
  | zero => simp [State.bytesAt]
  | succ m ih =>
    cases n with
    | zero => rfl
    | succ n => simp [State.bytesAt, ih, Nat.succ_min_succ]

theorem State.prefixRun_eq (s : State) (n : Nat) (x : Word) : s.prefixRun n x = indexRun (s.bytesAt n x) := by
  induction n generalizing s x with
  | zero => rfl
  | succ n ih =>
    cases h : Idx.ofByte (s.peek x) with
    | none => simp [State.prefixRun, State.bytesAt, h, indexRun_cons_of_none h]
    | some xy => simp [State.prefixRun, State.bytesAt, h, indexRun_cons_of_index h, ih]

/-- A read far enough ahead answers every byte of memory, where the host has no answer ready. -/
theorem State.memByte_mem_bytesAt {s : State} (ha : s.answers = []) {n : Nat} {x y : Word} (h : (y - x).toNat < n) :
    s.memByte y ∈ s.bytesAt n x := by
  induction n generalizing s x with
  | zero => omega
  | succ n ih =>
    rw [State.bytesAt, State.peek_of_nil ha, List.mem_cons]
    by_cases hxy : y = x
    · exact .inl (by rw [hxy])
    · exact .inr (ih (s := s.sawRead x) (by simp [ha]) (by bv_omega))

/-- A byte that any coming read answers is among the host's ready answers and then once round the address space (R353). -/
theorem State.mem_bytesAt_bound {s : State} {n : Nat} {x : Word} {b : Byte} (hb : b ∈ s.bytesAt n x) :
    b ∈ s.bytesAt s.prefixBound x := by
  unfold State.prefixBound
  generalize ha : s.answers = as
  induction as generalizing s n x with
  | nil =>
    obtain ⟨y, rfl⟩ := State.memByte_of_mem_bytesAt ha hb
    exact State.memByte_mem_bytesAt ha (by simpa [addressCount] using (y - x).isLt)
  | cons a as ih =>
    cases n with
    | zero => cases hb
    | succ n =>
      rw [List.length_cons, Nat.add_right_comm, State.bytesAt]
      obtain rfl | hb := List.mem_cons.1 hb
      · exact List.mem_cons_self
      · exact List.mem_cons_of_mem _ (ih hb (by simp [ha]))

/-- Any window at PC that decodes gives the instruction at PC (R100). -/
theorem State.instrAt_of_decode {s : State} {n : Nat} {i : Instr} {rest : List Byte}
    (h : decode s.params.edIoC (s.bytesAt n s.pc) = .ok (i, rest)) : s.instrAt = some i := by
  have hrun : indexRun (s.bytesAt n s.pc) ≤ s.prefixRun s.prefixBound s.pc := by
    rw [State.prefixRun_eq]
    obtain ⟨b, hb, hnone⟩ := exists_nonIndex_of_decode _ h
    obtain hle | hle := Nat.le_total n s.prefixBound
    · obtain ⟨tl, htl⟩ := s.bytesAt_isPrefix hle s.pc
      rw [← htl]
      exact indexRun_le_append _ _
    · obtain ⟨tl, htl⟩ := s.bytesAt_isPrefix hle s.pc
      rw [← htl, indexRun_append_of_mem (State.mem_bytesAt_bound hb) hnone]
  have hwindow : (s.bytesAt n s.pc).take (indexRun (s.bytesAt n s.pc) + 4) <+: s.window s.pc := by
    rw [State.take_bytesAt]
    exact s.bytesAt_isPrefix (by omega) s.pc
  obtain ⟨rest', hw⟩ := decode_decided _ h hwindow
  rw [State.instrAt, hw]

theorem andThen_assoc (o : Host.Outcome State Fault Refusal) (k l : State → Host.Outcome State Fault Refusal) :
    andThen (andThen o k) l = andThen o fun s => andThen (k s) l := by
  cases o <;> rfl

/-- Settles O47: the window decides the instruction at PC, and the fetch is one record. -/
theorem stepRunsDecodedInstruction : Obligations.StepRunsDecodedInstruction := by
  intro s n i rest hhung hhalt hd
  have hst : step s = andThen (runInstr i s.incR) interruptEval := by
    have hi := State.instrAt_of_decode hd
    obtain ⟨h, -⟩ | ⟨-, h, -⟩ | ⟨-, -, j, hj, hst⟩ | ⟨-, -, h, -⟩ := step_cases s
    · rw [hhung] at h; cases h
    · rw [hhalt] at h; cases h
    · rw [hi] at hj
      cases hj
      exact hst
    · rw [hi] at h; cases h
  rw [hst, runInstr, andThen_assoc, State.fetch_eq, State.fetchReads_congr (u := s.incR) (s := s) rfl rfl]
  rfl

end Sys2Proof.Machine
end

section
/-! SUPPORT. Reads of memory and of ports, and word accesses (20_memory.md R60, R61, R64). -/

namespace Sys2Proof.Machine

/-! ### Reads by what the host has ready -/

/-- A ready byte is what a read answers, whatever memory holds (R61). -/
theorem State.peek_of_some {s : State} {v : Byte} {more : List (Option Byte)} (h : s.answers = some v :: more) (x : Word) :
    s.peek x = v := by
  rw [State.peek, h]

/-- A ready answer that leaves the read to memory (log 1). -/
theorem State.peek_of_none {s : State} {more : List (Option Byte)} (h : s.answers = none :: more) (x : Word) :
    s.peek x = s.memByte x := by
  rw [State.peek, h]

theorem State.portValue_of_cons {s : State} {v : Byte} {rest : List Byte} (h : s.inputs = v :: rest) (port : Byte) :
    s.portValue port = v := by
  rw [State.portValue, h]

theorem State.portValue_of_nil {s : State} (h : s.inputs = []) (port : Byte) :
    s.portValue port = Config.portAnswer s.portReads port := by
  rw [State.portValue, h]

/-- Settles O27: by the head of the list the host has ready. -/
theorem busReadAnswers : Obligations.BusReadAnswers := by
  intro s x port v more rest
  refine ⟨fun h => ?_, fun h => ?_, fun h => ?_, fun h => ?_, fun h => ?_⟩
  · exact ⟨State.peek_of_some h x, by rw [State.sawRead, State.peek_of_some h, h, List.tail_cons]⟩
  · exact ⟨State.peek_of_none h x, by rw [State.sawRead, State.peek_of_none h, h, List.tail_cons, State.memByte]⟩
  · exact ⟨State.peek_of_nil h x, by rw [State.sawRead, State.peek_of_nil h, h, List.tail_nil, State.memByte, ← h]⟩
  · exact ⟨State.portValue_of_cons h port, by simp [State.sawPortIn_eq, State.portValue_of_cons h, h]⟩
  · exact ⟨State.portValue_of_nil h port, by simp [State.sawPortIn_eq, State.portValue_of_nil h, h]⟩

/-! ### Word accesses -/

/-- Settles O8: the word read is its two bytes' numbers, and the accesses are the two byte accesses by definition. -/
theorem wordAccessIsTwoBytes : Obligations.WordAccessIsTwoBytes := by
  intro s x w
  refine ⟨?_, rfl, rfl⟩
  rw [State.peek16, toNat_mkWord, Nat.add_comm, Nat.mul_comm]
  rfl

end Sys2Proof.Machine
end

section
/-! SUPPORT. What each composed operation leaves in memory, and the frame of memory over every instruction (20_memory.md R67). -/

namespace Sys2Proof.Machine

/-! ### Memory after an operation -/

namespace State

variable (s : State)

@[simp] theorem sawRead16_mem (x : Word) : (s.sawRead16 x).mem = s.mem := rfl
@[simp] theorem afterPop_mem : s.afterPop.mem = s.mem := rfl
@[simp] theorem returnPc_mem : s.returnPc.mem = s.mem := by simp [returnPc]
@[simp] theorem returnNmi_mem : s.returnNmi.mem = s.mem := by simp [returnNmi]
@[simp] theorem formEa_mem (xy : Idx) (d : Byte) : (s.formEa xy d).mem = s.mem := rfl
@[simp] theorem setXyH_mem (xy : Idx) (v : Byte) : (s.setXyH xy v).mem = s.mem := s.setXy_mem xy _
@[simp] theorem setXyL_mem (xy : Idx) (v : Byte) : (s.setXyL xy v).mem = s.mem := s.setXy_mem xy _
@[simp] theorem alu_mem (op : AluOp) (v : Byte) : (s.alu op v).mem = s.mem := rfl
@[simp] theorem rotA_mem (k : Rot) : (s.rotA k).mem = s.mem := rfl
@[simp] theorem rotReg_mem (k : Rot) (r : Reg8) : (s.rotReg k r).mem = s.mem := by simp [rotReg]
@[simp] theorem testMem_mem (b : Fin 8) (x : Word) : (s.testMem b x).mem = s.mem := rfl

end State

/-! ### What a store leaves alone -/

namespace State

variable {s : State} {x y : Word}

theorem memByte_writeWord_ne (v : Word) (h : y ∉ [x, x + 1]) : (s.writeWord x v).memByte y = s.memByte y := by
  obtain ⟨hlow, hhigh⟩ : y ≠ x ∧ y ≠ x + 1 := by simpa using h
  rw [writeWord, memByte_writeByte_ne _ _ hhigh.symm, memByte_writeByte_ne _ _ hlow.symm]

theorem memByte_push16_ne (v : Word) (h : y ∉ pushAddrs s) : (s.push16 v).memByte y = s.memByte y := by
  obtain ⟨hhigh, hlow⟩ : y ≠ s.sp - 1 ∧ y ≠ s.sp - 2 := by simpa [pushAddrs] using h
  rw [push16, memByte_writeByte_ne _ _ hlow.symm]
  exact memByte_writeByte_ne _ _ hhigh.symm

theorem memByte_callTo_ne (target : Word) (h : y ∉ pushAddrs s) : (s.callTo target).memByte y = s.memByte y :=
  memByte_push16_ne s.pc h

theorem memByte_swapTop_ne (v : Word) (h : y ∉ [s.sp + 1, s.sp]) : (s.swapTop v).memByte y = s.memByte y := by
  obtain ⟨hhigh, hlow⟩ : y ≠ s.sp + 1 ∧ y ≠ s.sp := by simpa using h
  rw [swapTop, memByte_writeByte_ne _ _ hlow.symm, memByte_writeByte_ne _ _ hhigh.symm]
  rfl

theorem memByte_mapByte_ne (g : Byte → Byte) (h : y ≠ x) : (s.mapByte x g).memByte y = s.memByte y :=
  memByte_writeByte_ne (s.sawRead x) _ h.symm

theorem memByte_modifyByte_ne (g : Byte → Byte × Flags) (h : y ≠ x) : (s.modifyByte x g).memByte y = s.memByte y :=
  memByte_writeByte_ne (s.sawRead x) _ h.symm

theorem memByte_nibbleRotate_ne (mem acc : Byte) (h : y ≠ s.hl) : (s.nibbleRotate mem acc).memByte y = s.memByte y :=
  memByte_writeByte_ne (s.sawRead s.hl) _ h.symm

theorem memByte_blockCopy_ne (dir : Word) (h : y ≠ s.de) : (s.blockCopy dir).memByte y = s.memByte y :=
  memByte_writeByte_ne (s.sawRead s.hl) _ h.symm

theorem memByte_blockIn_ne (dir : Word) (h : y ≠ s.hl) : (s.blockIn dir).memByte y = s.memByte y :=
  (memByte_writeByte_ne (s.sawPortIn s.c) _ h.symm).trans (memByte_congr (s.sawPortIn_mem s.c) y)

theorem memByte_repeatWhile (again : Bool) : (s.repeatWhile again).memByte y = s.memByte y :=
  memByte_congr (s.repeatWhile_mem again) y

end State

/-! ### Every instruction -/

/-- A complete instruction leaves every byte of memory but those at its store addresses: its store's rule, or no store. -/
theorem runComplete_memByte (i : Instr) {s t : State} {x : Word} (h : runComplete i s = .next t)
    (hx : x ∉ storeAddrs s i.core) : t.memByte x = s.memByte x := by
  induction i with
  | fallback xy i ih => exact ih h hx
  | prefixCB | prefixED | prefixXY | prefixXyCB => cases h
  | ldMR | ldMN | ldBcA | ldDeA | ldAbsA =>
    cases h
    exact State.memByte_writeByte_ne s _ (List.ne_of_not_mem_cons hx).symm
  | ldXyDN xy d | ldXyDR xy d =>
    cases h
    exact State.memByte_writeByte_ne (s.formEa xy d) _ (List.ne_of_not_mem_cons hx).symm
  | ldAbsHl | ldAbsRp | ldAbsXy => cases h; exact State.memByte_writeWord_ne _ hx
  | push | pushXy => cases h; exact State.memByte_push16_ne _ hx
  | call | rst => cases h; exact State.memByte_callTo_ne _ hx
  | callCc cc nn =>
    cases h
    split
    · next hcc =>
      simp only [Instr.core, storeAddrs, if_pos hcc] at hx
      exact State.memByte_callTo_ne nn hx
    · rfl
  | exSpHl => cases h; exact State.memByte_swapTop_ne _ hx
  | exSpXy xy =>
    cases h
    exact (State.memByte_congr (State.setXy_mem ..) x).trans (State.memByte_swapTop_ne _ hx)
  | incM | decM | rlcM | rrcM | rlM | rrM | slaM | sraM | sllM | srlM =>
    cases h
    exact State.memByte_modifyByte_ne _ (List.ne_of_not_mem_cons hx)
  | incXyD xy d | decXyD xy d | rlcXyD xy d | rrcXyD xy d | rlXyD xy d | rrXyD xy d | slaXyD xy d | sraXyD xy d | sllXyD xy d
  | srlXyD xy d =>
    cases h
    exact State.memByte_modifyByte_ne (s := s.formEa xy d) _ (List.ne_of_not_mem_cons hx)
  | resM | setM => cases h; exact State.memByte_mapByte_ne _ (List.ne_of_not_mem_cons hx)
  | resXyD xy d | setXyD xy d =>
    cases h
    exact State.memByte_mapByte_ne (s := s.formEa xy d) _ (List.ne_of_not_mem_cons hx)
  | rld | rrd => cases h; exact State.memByte_nibbleRotate_ne _ _ (List.ne_of_not_mem_cons hx)
  | ldi | ldd => cases h; exact State.memByte_blockCopy_ne _ (List.ne_of_not_mem_cons hx)
  | ini | ind => cases h; exact State.memByte_blockIn_ne _ (List.ne_of_not_mem_cons hx)
  | ldir | lddr =>
    cases h
    exact (State.memByte_repeatWhile _).trans (State.memByte_blockCopy_ne _ (List.ne_of_not_mem_cons hx))
  | inir | indr =>
    cases h
    exact (State.memByte_repeatWhile _).trans (State.memByte_blockIn_ne _ (List.ne_of_not_mem_cons hx))
  | jpCc | jrCc | retCc | djnz =>
    cases h
    split <;> exact State.memByte_congr (by simp) x
  | _ =>
    cases h
    exact State.memByte_congr (by simp) x

/-- Settles O45: by the store rule of each form. -/
theorem memoryFrame : Obligations.MemoryFrame := by
  intro i s t hi h x hx
  exact runComplete_memByte i (exec_eq_runComplete hi s ▸ h) hx

end Sys2Proof.Machine
end

section
/-! SUPPORT. A load after a store, a POP after a PUSH, and the exchanges applied twice (20_memory.md R63; 41_base_load.md R215 to
R219). -/

namespace Sys2Proof.Machine

/-- Behind a host that answers as plain RAM a store is read back, and the other addresses read as they did (R63, log 1). -/
theorem State.peek_writeByte {s : State} (hm : s.mem.wf = true) (ha : s.answers = []) (x y : Word) (v : Byte) :
    (s.writeByte x v).peek y = if y = x then v else s.peek y := by
  rw [State.peek_of_nil (s := s.writeByte x v) ha, State.peek_of_nil ha]
  split
  · next h => rw [h, State.memByte_writeByte_eq hm]
  · next h => exact State.memByte_writeByte_ne s v (Ne.symm h)

/-- Every stack pair reads back the word it was given, AF by the two ways of its flag byte (R23, R24). -/
@[simp] theorem State.rp2_setRp2 (s : State) (q : RPair2) (w : Word) : (s.setRp2 q w).rp2 q = w := by
  cases q <;> simp [State.setRp2, State.rp2, State.bc, State.de, State.hl, State.af]

@[simp] theorem State.push16_sp (s : State) (v : Word) : (s.push16 v).sp = s.sp - 2 := by simp [State.push16]

@[simp] theorem State.push16_answers (s : State) (v : Word) : (s.push16 v).answers = s.answers := by simp [State.push16]

@[simp] theorem State.afterPop_sp (s : State) : s.afterPop.sp = s.sp + 2 := rfl

/-- What a push stored a pop finds, also where SP wraps between the two bytes (R215, R216). -/
theorem State.popValue_push16 {s : State} (hm : s.mem.wf = true) (ha : s.answers = []) (w : Word) :
    (s.push16 w).popValue = w := by
  have hlo : (s.push16 w).memByte (s.sp - 2) = loByte w := by
    rw [State.push16]
    exact State.memByte_writeByte_eq (s := { s.writeByte _ _ with sp := _ }) (State.wf_writeByte hm _ _) _ _
  have hhi : (s.push16 w).memByte (s.sp - 2 + 1) = hiByte w := by
    have hsp : s.sp - 2 + 1 = s.sp - 1 := by bv_omega
    rw [hsp, State.push16, State.memByte_writeByte_ne _ _ (by bv_omega)]
    exact State.memByte_writeByte_eq hm _ _
  have ha' : (s.push16 w).answers = [] := (s.push16_answers w).trans ha
  rw [State.popValue, State.peek16, State.peek_sawRead_of_nil ha', State.peek_of_nil ha', State.peek_of_nil ha', State.push16_sp,
    hlo, hhi, mkWord_hiByte_loByte]

/-- `EX AF,AF'` keeps every flag bit both ways, as the packed byte loses none (R23, R24, R218). -/
theorem exec_exAf_twice (s : State) : ∃ t, exec .exAf s = .next t ∧ exec .exAf t = .next s := by
  refine ⟨_, rfl, ?_⟩
  change Host.Outcome.next { s with f := Flags.unpack s.f.pack, f' := (Flags.unpack s.f').pack } = _
  rw [Flags.unpack_pack, Flags.pack_unpack]

/-- `EX DE,HL` swaps the halves of the two pairs (R217). -/
theorem exec_exDeHl_eq (s : State) : exec .exDeHl s = .next { s with d := s.h, e := s.l, h := s.d, l := s.e } := by
  change Host.Outcome.next ((s.setDe s.hl).setHl s.de) = _
  simp [State.setDe, State.setHl, State.hl, State.de]

/-- Settles O13: a store is read back, a pop finds what a push stored, and each exchange is its own inverse. -/
theorem roundTripsRestore : Obligations.RoundTripsRestore := by
  intro s
  refine ⟨fun hm ha => ⟨State.peek_writeByte hm ha, fun p q => ?_⟩, exec_exAf_twice s, ⟨_, rfl, rfl⟩, ?_⟩
  · refine ⟨_, _, rfl, rfl, ?_, ?_⟩
    · rw [State.popValue_push16 hm ha, State.rp2_setRp2]
    · rw [State.setRp2_sp, State.afterPop_sp, State.push16_sp, BitVec.sub_add_cancel]
  · exact ⟨_, exec_exDeHl_eq s, exec_exDeHl_eq _⟩

end Sys2Proof.Machine
end

section
/-! SUPPORT. The fields of an opcode byte and the operand tables, both ways (30_encoding.md R101 to R107). -/

namespace Sys2Proof

open Machine (opX opY opZ opByte)

/-! ### The fields of an opcode byte (R101) -/

@[simp] theorem opX_opByte {x y z : Nat} (hx : x < 4) (hy : y < 8) (hz : z < 8) : opX (opByte x y z) = x := by
  rw [opX, opByte, BitVec.toNat_ofNat]
  omega

@[simp] theorem opY_opByte {x y z : Nat} (hy : y < 8) (hz : z < 8) : opY (opByte x y z) = y := by
  rw [opY, opByte, BitVec.toNat_ofNat]
  omega

@[simp] theorem opZ_opByte {x y z : Nat} (hz : z < 8) : opZ (opByte x y z) = z := by
  rw [opZ, opByte, BitVec.toNat_ofNat]
  omega

theorem exists_eq_opByte (op : Byte) : ∃ x y z, x < 4 ∧ y < 8 ∧ z < 8 ∧ op = opByte x y z := by
  refine ⟨opX op, opY op, opZ op, Nat.div_lt_of_lt_mul op.isLt, Nat.mod_lt _ (by decide), Nat.mod_lt _ (by decide), ?_⟩
  apply BitVec.eq_of_toNat_eq
  rw [opByte, opX, opY, opZ, BitVec.toNat_ofNat]
  omega

/-! ### The operand tables (R102 to R107) -/

@[simp] theorem Reg8.ofCode_code (r : Reg8) : Reg8.ofCode r.code = some r := by cases r <;> rfl

@[simp] theorem XReg.ofCode_code (r : XReg) : XReg.ofCode r.code = some r := by cases r <;> rfl

@[simp] theorem Reg8.code_lt (r : Reg8) : r.code < 8 := by cases r <;> decide

@[simp] theorem XReg.code_lt (r : XReg) : r.code < 8 := by cases r <;> decide

@[simp] theorem regOrMem_code (r : Reg8) (reg : Reg8 → Instr) (mem : Instr) : regOrMem r.code reg mem = reg r := by
  rw [regOrMem, Reg8.ofCode_code]

@[simp] theorem regOrMem_six (reg : Reg8 → Instr) (mem : Instr) : regOrMem 6 reg mem = mem := rfl

@[simp] theorem bitNumber_val (b : Fin 8) : bitNumber b = b := Fin.ofNat_val_eq_self b

theorem Reg8.code_of_ofCode {n : Nat} (hn : n < 8) {r : Reg8} (h : Reg8.ofCode n = some r) : r.code = n := by
  interval_cases n <;> cases h <;> rfl

/-- A code of table r is a register's or the memory operand's. -/
theorem Reg8.code_cases {n : Nat} (hn : n < 8) : n = 6 ∨ ∃ r : Reg8, n = r.code := by
  cases h : Reg8.ofCode n with
  | some r => exact .inr ⟨r, (Reg8.code_of_ofCode hn h).symm⟩
  | none =>
    left
    interval_cases n <;> cases h
    rfl

theorem XReg.code_of_ofCode {n : Nat} (hn : n < 8) {r : XReg} (h : XReg.ofCode n = some r) : r.code = n := by
  interval_cases n <;> cases h <;> rfl

theorem XReg.eq_six_of_ofCode {n : Nat} (hn : n < 8) (h : XReg.ofCode n = none) : n = 6 := by
  interval_cases n <;> cases h
  rfl

theorem RPair.code_ofCode {n : Nat} (h : n < 4) : (RPair.ofCode n).code = n := by interval_cases n <;> rfl

theorem Cond.code_ofCode {n : Nat} (h : n < 8) : (Cond.ofCode n).code = n := by interval_cases n <;> rfl

theorem AluOp.code_ofCode {n : Nat} (h : n < 8) : (AluOp.ofCode n).code = n := by interval_cases n <;> rfl

theorem val_bitNumber {n : Nat} (h : n < 8) : (bitNumber n).val = n := Nat.mod_eq_of_lt h

end Sys2Proof
end

section
/-! SUPPORT. Decoding gives back what was encoded, form by form (30_encoding.md R100, R108 to R117; 44_index.md R352). -/

namespace Sys2Proof

open Machine (opByte)

/-! ### The ignored index byte -/

theorem encode_ne_nil (i : Instr) : encode i ≠ [] := by
  cases i <;> exact List.cons_ne_nil _ _

theorem isSome_indexEntry (xy : Idx) (b : Byte) : (indexEntry xy b).isSome = (indexEntry .ix b).isSome := by
  cases xy with
  | ix => rfl
  | iy => revert b; decide

/-- A byte falls back where it is neither 0xCB nor the index of an entry (R112). -/
theorem fallsBack_cons {b : Byte} {bs : List Byte} (xy : Idx) :
    fallsBack (b :: bs) = true ↔ b ≠ 0xCB ∧ indexEntry xy b = none := by
  rw [fallsBack, inIndexTable, ← isSome_indexEntry xy]
  simp

theorem fallsBack_append {bs : List Byte} (h : bs ≠ []) (tl : List Byte) : fallsBack (bs ++ tl) = fallsBack bs := by
  obtain ⟨b, bs, rfl⟩ := List.exists_cons_of_ne_nil h
  rfl

theorem decodeIndexed_of_fallsBack {bs : List Byte} (h : fallsBack bs = true) (xy : Idx) (base : Decoded) :
    decodeIndexed xy bs base = asFallback xy base := by
  match bs with
  | [] => cases h
  | b :: bs =>
    obtain ⟨hcb, hentry⟩ := (fallsBack_cons xy).1 h
    rw [decodeIndexed, if_neg hcb, hentry]

/-- A fallback is complete where the instruction after the ignored byte is, and begins with a byte the index table lacks. -/
theorem complete_fallback {io : Bool} {xy : Idx} {i : Instr} :
    (Instr.fallback xy i).complete io ↔ i.complete io ∧ fallsBack (encode i) = true := by
  simp [Instr.complete, Instr.wf, Instr.isPrefixRow]

theorem decode_prefixByte_cons (io : Bool) (xy : Idx) (bs : List Byte) :
    decode io (xy.prefixByte :: bs) = decodeIndexed xy bs (decode io bs) := by
  cases xy <;> rfl

/-! ### The forms with operands in the opcode byte -/

theorem immWord_wordBytes (f : Word → Instr) (nn : Word) (rest : List Byte) :
    immWord f (wordBytes nn ++ rest) = .ok (f nn, rest) := by
  simp [wordBytes, immWord]

theorem decode_cbBytes (io : Bool) (x y z : Nat) (rest : List Byte) :
    decode io (cbBytes x y z ++ rest) = .ok (cbEntry (opByte x y z), rest) := rfl

theorem decode_ddcbBytes (io : Bool) (xy : Idx) (d : Byte) (x y z : Nat) (rest : List Byte) :
    decode io (ddcbBytes xy d x y z ++ rest) = .ok (ddcbEntry xy d (opByte x y z), rest) := by
  cases xy <;> rfl

theorem decodeEd_of_unknown {io : Bool} {op : Byte} (h : knownEd io op = false) (bs : List Byte) :
    decodeEd io (op :: bs) = .ok (.unknownEd op, bs) := by
  rw [knownEd, Option.isSome_eq_false_iff, Option.isNone_iff_eq_none] at h
  rw [decodeEd, h]

/-- A well-formed RST has one of eight targets (R310). -/
theorem decode_encode_rst (io : Bool) {p : Byte} (h : ((p &&& 0xC7) == 0) = true) (rest : List Byte) :
    decode io (encode (.rst p) ++ rest) = .ok (.rst p, rest) := by
  have hall : ∀ p : Byte, ((p &&& 0xC7) == 0) = true →
    p = 0x00 ∨ p = 0x08 ∨ p = 0x10 ∨ p = 0x18 ∨ p = 0x20 ∨ p = 0x28 ∨ p = 0x30 ∨ p = 0x38 := by decide
  obtain rfl | rfl | rfl | rfl | rfl | rfl | rfl | rfl := hall p h <;> rfl

/-- `LD r',r''` is the entry wherever one of the operands names a half (R372). -/
theorem decode_encode_ldHalf (io : Bool) (xy : Idx) {dst src : XReg} (h : (dst.isHalf || src.isHalf) = true)
    (rest : List Byte) : decode io (encode (.ldHalf xy dst src) ++ rest) = .ok (.ldHalf xy dst src, rest) := by
  have hentry : indexEntry xy (opByte 1 dst.code src.code) = some (noOperand (.ldHalf xy dst src)) := by
    simp [indexEntry, indexX1, h]
  have hcb : opByte 1 dst.code src.code ≠ 0xCB := by cases dst <;> cases src <;> decide
  change decode io (xy.prefixByte :: opByte 1 dst.code src.code :: rest) = _
  rw [decode_prefixByte_cons, decodeIndexed, if_neg hcb, hentry]
  rfl

/-! ### Every form -/

/-- Decoding the bytes of a complete instruction gives it back, whatever follows (R100). -/
theorem decode_encode {io : Bool} {i : Instr} (h : i.complete io) (rest : List Byte) :
    decode io (encode i ++ rest) = .ok (i, rest) := by
  induction i with
  | fallback xy i ih =>
    obtain ⟨hi, hf⟩ := complete_fallback.1 h
    rw [← fallsBack_append (encode_ne_nil i) rest] at hf
    change decode io (xy.prefixByte :: (encode i ++ rest)) = _
    rw [decode_prefixByte_cons, decodeIndexed_of_fallsBack hf, ih hi]
    rfl
  | prefixCB | prefixED | prefixXY | prefixXyCB => cases h.2
  | ldRR dst src => cases dst <;> cases src <;> rfl
  | ldRN r | ldRM r | ldMR r | addR r | adcR r | subR r | sbcR r | andR r | xorR r | orR r | cpR r | incR r | decR r =>
    cases r <;> rfl
  | incRp p | decRp p | addHlRp p | push p | pop p | sbcHlRp p | adcHlRp p => cases p <;> rfl
  | ldRpImm p nn | ldRpAbs p nn => cases p <;> exact immWord_wordBytes _ nn rest
  | ldAbsRp nn p => cases p <;> exact immWord_wordBytes (fun nn => .ldAbsRp nn _) nn rest
  | ldAAbs nn | ldAbsA nn | ldHlAbs nn | ldAbsHl nn | jp nn | call nn => exact immWord_wordBytes _ nn rest
  | jpCc cc nn | callCc cc nn => cases cc <;> exact immWord_wordBytes _ nn rest
  | retCc cc => cases cc <;> rfl
  | jrCc cc =>
    cases cc with
    | nz | z | nc | c => rfl
    | po | pe | p | m => cases h.1
  | rst p => exact decode_encode_rst io h.1 rest
  | rlcR r | rrcR r | rlR r | rrR r | slaR r | sraR r | sllR r | srlR r => cases r <;> rfl
  | bitR b | bitM b | resR b | resM b | setR b | setM b => simp [encode, decode_cbBytes, cbEntry]
  | inRC r | outCR r =>
    obtain ⟨rfl, -⟩ := h
    cases r <;> rfl
  | unknownEd op => exact decodeEd_of_unknown (by simpa [Instr.wf] using h.1) rest
  | ldXyImm xy nn | ldAbsXy xy nn | ldXyAbs xy nn => cases xy <;> exact immWord_wordBytes _ nn rest
  | addXyRp xy p => cases xy <;> cases p <;> rfl
  | aluXyH xy op | aluXyL xy op | aluXyD xy op => cases xy <;> cases op <;> rfl
  | ldRXyD xy r | ldXyDR xy _ r => cases xy <;> cases r <;> rfl
  | ldHalf xy dst src => exact decode_encode_ldHalf io xy h.1 rest
  | rlcXyD | rrcXyD | rlXyD | rrXyD | slaXyD | sraXyD | sllXyD | srlXyD | bitXyD | resXyD | setXyD =>
    simp [encode, decode_ddcbBytes, ddcbEntry, Rot.ofCode]
  | incXy xy | decXy xy | incXyH xy | decXyH xy | ldXyHN xy | incXyL xy | decXyL xy | ldXyLN xy | incXyD xy | decXyD xy
  | ldXyDN xy | popXy xy | pushXy xy | exSpXy xy | jpXy xy | ldSpXy xy => cases xy <;> rfl
  | _ => rfl

/-- Settles O2: by induction on the instruction, an ignored index byte going before one that the index table lacks. -/
theorem decodeOfEncode : Obligations.DecodeOfEncode := fun _ _ rest h => decode_encode h rest

end Sys2Proof
end

section
/-! SUPPORT. What the entries of the tables answer is encoded as the bytes they took, and they always answer with two bytes more
(30_encoding.md R100 to R113, R118, R119). -/

namespace Sys2Proof

open Machine (opX opY opZ opByte)

/-! ### What an entry reads -/

/-- The decoding answers an instruction. -/
def Answers (d : Decoded) : Prop := ∃ i rest, d = .ok (i, rest)

/-- The entry reached by the bytes `pre` answers with two bytes more, and what it answers is encoded as `pre` and the bytes it
took. -/
structure Reads (pre : List Byte) (entry : List Byte → Decoded) : Prop where
  answers : ∀ bs, 2 ≤ bs.length → Answers (entry bs)
  encode_append : ∀ bs i rest, entry bs = .ok (i, rest) → encode i ++ rest = pre ++ bs

@[simp] theorem reads_noOperand {pre : List Byte} {i : Instr} : Reads pre (noOperand i) ↔ encode i = pre := by
  constructor
  · intro h
    simpa using h.encode_append [] _ _ rfl
  · rintro rfl
    exact ⟨fun bs _ => ⟨i, bs, rfl⟩, fun bs _ _ hd => by cases hd; rfl⟩

@[simp] theorem reads_oneByte {pre : List Byte} {f : Byte → Instr} :
    Reads pre (oneByte f) ↔ ∀ n, encode (f n) = pre ++ [n] := by
  constructor
  · intro h n
    simpa using h.encode_append [n] _ _ rfl
  · intro h
    constructor
    · intro bs hbs
      match bs with
      | n :: bs => exact ⟨f n, bs, rfl⟩
    · intro bs i rest hd
      match bs with
      | [] => cases hd
      | n :: bs =>
        cases hd
        simp [h]

@[simp] theorem reads_twoBytes {pre : List Byte} {f : Byte → Byte → Instr} :
    Reads pre (twoBytes f) ↔ ∀ d n, encode (f d n) = pre ++ [d, n] := by
  constructor
  · intro h d n
    simpa using h.encode_append [d, n] _ _ rfl
  · intro h
    constructor
    · intro bs hbs
      match bs with
      | d :: n :: bs => exact ⟨f d n, bs, rfl⟩
    · intro bs i rest hd
      match bs with
      | [] | [_] => cases hd
      | d :: n :: bs =>
        cases hd
        simp [h]

theorem immWord_eq_twoBytes (f : Word → Instr) : immWord f = twoBytes fun lo hi => f (Machine.mkWord hi lo) := by
  funext bs
  match bs with
  | [] | [_] | _ :: _ :: _ => rfl

@[simp] theorem reads_immWord {pre : List Byte} {f : Word → Instr} :
    Reads pre (immWord f) ↔ ∀ nn, encode (f nn) = pre ++ wordBytes nn := by
  rw [immWord_eq_twoBytes, reads_twoBytes]
  constructor
  · intro h nn
    have hnn := h (Machine.loByte nn) (Machine.hiByte nn)
    rwa [Machine.mkWord_hiByte_loByte] at hnn
  · intro h lo hi
    simp [h, wordBytes]

/-! ### The base table -/

theorem encode_regOrMem {code : Nat} (hc : code < 8) {reg : Reg8 → Instr} {mem : Instr} {f : Nat → List Byte}
    (hr : ∀ r, encode (reg r) = f r.code) (hm : encode mem = f 6) : encode (regOrMem code reg mem) = f code := by
  obtain rfl | ⟨r, rfl⟩ := Reg8.code_cases hc
  · rw [regOrMem_six, hm]
  · rw [regOrMem_code, hr]

theorem baseX0_reads {y z : Nat} (hy : y < 8) (hz : z < 8) : Reads [opByte 0 y z] (baseX0 y z) := by
  have hp : y / 2 < 4 := by omega
  unfold baseX0
  split
  · interval_cases y <;> simp [encode, Cond.ofCode, Cond.code, opByte]
  · split
    · have h : 2 * (y / 2) = y := by omega
      simp [encode, RPair.code_ofCode hp, h]
    · have h : 2 * (y / 2) + 1 = y := by omega
      simp [encode, RPair.code_ofCode hp, h]
  · interval_cases y <;> simp [encode, opByte]
  · split
    · have h : 2 * (y / 2) = y := by omega
      simp [encode, RPair.code_ofCode hp, h]
    · have h : 2 * (y / 2) + 1 = y := by omega
      simp [encode, RPair.code_ofCode hp, h]
  · exact reads_noOperand.2 (encode_regOrMem hy (f := fun c => [opByte 0 c 4]) (fun _ => rfl) rfl)
  · exact reads_noOperand.2 (encode_regOrMem hy (f := fun c => [opByte 0 c 5]) (fun _ => rfl) rfl)
  · obtain rfl | ⟨r, rfl⟩ := Reg8.code_cases hy
    · simp [Reg8.ofCode, encode, opByte]
    · simp [encode]
  · obtain rfl : z = 7 := by grind
    interval_cases y <;> simp [encode, opByte]

theorem encode_ldRow {y z : Nat} (hy : y < 8) (hz : z < 8) : encode (ldRow y z) = [opByte 1 y z] := by
  obtain rfl | ⟨dst, rfl⟩ := Reg8.code_cases hy <;> obtain rfl | ⟨src, rfl⟩ := Reg8.code_cases hz
  · rfl
  · rw [ldRow, Reg8.ofCode_code]
    rfl
  · rw [ldRow, Reg8.ofCode_code]
    rfl
  · rw [ldRow, Reg8.ofCode_code, Reg8.ofCode_code]
    rfl

theorem encode_aluRow {y z : Nat} (hy : y < 8) (hz : z < 8) : encode (aluRow y z) = [opByte 2 y z] := by
  obtain rfl | ⟨r, rfl⟩ := Reg8.code_cases hz
  · interval_cases y <;> rfl
  · rw [aluRow, Reg8.ofCode_code]
    interval_cases y <;> rfl

theorem encode_aluImm {y : Nat} (hy : y < 8) (n : Byte) : encode (aluImm y n) = [opByte 3 y 6, n] := by
  interval_cases y <;> rfl

theorem encode_rst {y : Nat} (hy : y < 8) : encode (.rst (BitVec.ofNat 8 (8 * y))) = [opByte 3 y 7] := by
  interval_cases y <;> rfl

/-- Only 0xCB, 0xDD, 0xED and 0xFD have no entry in the base table (R108). -/
theorem baseX3_reads {y z : Nat} (hy : y < 8) (hz : z < 8) (h : isPrefixByte (opByte 3 y z) = false) :
    Reads [opByte 3 y z] (baseX3 y z) := by
  unfold baseX3
  split
  · simp [encode, Cond.code_ofCode hy]
  · interval_cases y <;> simp [encode, RPair2.ofCode, RPair2.code, opByte]
  · simp [encode, Cond.code_ofCode hy]
  · split
    case h_2 => cases h
    case h_8 =>
      obtain rfl : y = 7 := by grind
      simp [encode, opByte]
    all_goals simp [encode, opByte]
  · simp [encode, Cond.code_ofCode hy]
  · split
    case h_2 | h_3 | h_4 => cases h
    · simp [encode, opByte]
    · have heven : y = 0 ∨ y = 2 ∨ y = 4 ∨ y = 6 := by grind
      obtain rfl | rfl | rfl | rfl := heven <;> simp [encode, RPair2.ofCode, RPair2.code]
  · simp [encode_aluImm hy]
  · obtain rfl : z = 7 := by grind
    simp [encode_rst hy]

theorem baseEntry_reads {op : Byte} (h : isPrefixByte op = false) : Reads [op] (baseEntry op) := by
  obtain ⟨x, y, z, hx, hy, hz, rfl⟩ := exists_eq_opByte op
  rw [baseEntry, opX_opByte hx hy hz, opY_opByte hy hz, opZ_opByte hz]
  interval_cases x
  · exact baseX0_reads hy hz
  · exact reads_noOperand.2 (encode_ldRow hy hz)
  · exact reads_noOperand.2 (encode_aluRow hy hz)
  · exact baseX3_reads hy hz h

/-! ### The CB table -/

theorem encode_rotRow {y z : Nat} (hy : y < 8) (hz : z < 8) : encode (rotRow y z) = cbBytes 0 y z := by
  interval_cases y <;> exact encode_regOrMem hz (f := cbBytes 0 _) (fun _ => rfl) rfl

theorem encode_cbEntry (op : Byte) : encode (cbEntry op) = [0xCB, op] := by
  obtain ⟨x, y, z, hx, hy, hz, rfl⟩ := exists_eq_opByte op
  have hb := val_bitNumber hy
  rw [cbEntry, opX_opByte hx hy hz, opY_opByte hy hz, opZ_opByte hz]
  interval_cases x
  · exact encode_rotRow hy hz
  · exact encode_regOrMem hz (f := cbBytes 1 y) (fun _ => by rw [encode, hb]) (by rw [encode, hb])
  · exact encode_regOrMem hz (f := cbBytes 2 y) (fun _ => by rw [encode, hb]) (by rw [encode, hb])
  · exact encode_regOrMem hz (f := cbBytes 3 y) (fun _ => by rw [encode, hb]) (by rw [encode, hb])

/-! ### The ED table -/

theorem edX1_reads (io : Bool) {y z : Nat} (hy : y < 8) (hz : z < 8) :
    ∀ e ∈ edX1 io y z, Reads [0xED, opByte 1 y z] e := by
  have hp : y / 2 < 4 := by omega
  unfold edX1
  split
  iterate 2
    · split
      · simp +contextual [encode, edBytes, Reg8.code_of_ofCode hy]
      · nofun
  · interval_cases y <;> simp [encode, edBytes, RPair.ofCode, RPair.code]
  · interval_cases y <;> simp [encode, edBytes, RPair.ofCode, RPair.code]
  · split <;> simp [encode, opByte, *]
  · split <;> simp [encode, opByte]
  · split <;> simp [encode, opByte]
  · obtain rfl : z = 7 := by grind
    split <;> simp [encode, opByte]

theorem encode_edX2 (y z : Nat) : ∀ i ∈ edX2 y z, encode i = [0xED, opByte 2 y z] := by
  unfold edX2
  split <;> simp [encode, opByte]

theorem edEntry_reads (io : Bool) (op : Byte) : ∀ e ∈ edEntry io op, Reads [0xED, op] e := by
  obtain ⟨x, y, z, hx, hy, hz, rfl⟩ := exists_eq_opByte op
  rw [edEntry, opX_opByte hx hy hz, opY_opByte hy hz, opZ_opByte hz]
  interval_cases x
  · nofun
  · exact edX1_reads io hy hz
  · simpa using encode_edX2 y z
  · nofun

/-! ### The index table and the displaced-bit table -/

theorem indexX0_reads (xy : Idx) (y z : Nat) : ∀ e ∈ indexX0 xy y z, Reads [xy.prefixByte, opByte 0 y z] e := by
  unfold indexX0
  split <;> simp [encode, xyBytes, XPair.code]

/-- A register that is no half has one code in both tables (R102). -/
theorem indexX1_reads (xy : Idx) {y z : Nat} (hy : y < 8) (hz : z < 8) :
    ∀ e ∈ indexX1 xy y z, Reads [xy.prefixByte, opByte 1 y z] e := by
  unfold indexX1
  split
  · next hd hs =>
    split
    · simp [encode, xyBytes, XReg.code_of_ofCode hy hd, XReg.code_of_ofCode hz hs]
    · nofun
  · next hs => simp +contextual [encode, xyBytes, Reg8.code_of_ofCode hy, XReg.eq_six_of_ofCode hz hs]
  · next hd _ => simp +contextual [encode, xyBytes, Reg8.code_of_ofCode hz, XReg.eq_six_of_ofCode hy hd]
  · nofun

theorem indexX2_reads (xy : Idx) {y : Nat} (z : Nat) (hy : y < 8) :
    ∀ e ∈ indexX2 xy y z, Reads [xy.prefixByte, opByte 2 y z] e := by
  unfold indexX2
  split <;> simp [encode, xyBytes, AluOp.code_ofCode hy]

theorem indexX3_reads (xy : Idx) (y z : Nat) : ∀ e ∈ indexX3 xy y z, Reads [xy.prefixByte, opByte 3 y z] e := by
  unfold indexX3
  split <;> simp [encode, xyBytes]

theorem indexEntry_reads (xy : Idx) (op : Byte) : ∀ e ∈ indexEntry xy op, Reads [xy.prefixByte, op] e := by
  obtain ⟨x, y, z, hx, hy, hz, rfl⟩ := exists_eq_opByte op
  rw [indexEntry, opX_opByte hx hy hz, opY_opByte hy hz, opZ_opByte hz]
  interval_cases x
  · exact indexX0_reads xy y z
  · exact indexX1_reads xy hy hz
  · exact indexX2_reads xy z hy
  · exact indexX3_reads xy y z

theorem encode_ddcbEntry (xy : Idx) (d op : Byte) : encode (ddcbEntry xy d op) = [xy.prefixByte, 0xCB, d, op] := by
  obtain ⟨x, y, z, hx, hy, hz, rfl⟩ := exists_eq_opByte op
  have hb := val_bitNumber hy
  have hn := val_bitNumber hz
  rw [ddcbEntry, opX_opByte hx hy hz, opY_opByte hy hz, opZ_opByte hz]
  interval_cases x
  · interval_cases y <;> simp [Rot.ofCode, encode, ddcbBytes, hn]
  all_goals simp [encode, ddcbBytes, hb, hn]

/-! ### After 0xED and after an index byte -/

theorem decodeEd_answers (io : Bool) {bs : List Byte} (hbs : 3 ≤ bs.length) : Answers (decodeEd io bs) := by
  match bs with
  | op :: bs =>
    rw [decodeEd]
    split
    · next entry he => exact (edEntry_reads io op entry he).answers bs (Nat.le_of_succ_le_succ hbs)
    · exact ⟨_, _, rfl⟩

theorem encode_append_of_decodeEd {io : Bool} {bs : List Byte} {i : Instr} {rest : List Byte}
    (hd : decodeEd io bs = .ok (i, rest)) : encode i ++ rest = 0xED :: bs := by
  match bs with
  | [] => cases hd
  | op :: bs =>
    rw [decodeEd] at hd
    split at hd
    · next entry he => exact (edEntry_reads io op entry he).encode_append bs i rest hd
    · cases hd
      rfl

theorem ddcb_reads (xy : Idx) : Reads [xy.prefixByte, 0xCB] (twoBytes (ddcbEntry xy)) :=
  reads_twoBytes.2 fun d op => encode_ddcbEntry xy d op

theorem decodeIndexed_answers (xy : Idx) {bs : List Byte} {base : Decoded} (hbs : 3 ≤ bs.length) (hb : Answers base) :
    Answers (decodeIndexed xy bs base) := by
  match bs with
  | b1 :: bs =>
    have hbs : 2 ≤ bs.length := Nat.le_of_succ_le_succ hbs
    rw [decodeIndexed]
    split
    · exact (ddcb_reads xy).answers bs hbs
    · split
      · next entry he => exact (indexEntry_reads xy b1 entry he).answers bs hbs
      · obtain ⟨j, rest, rfl⟩ := hb
        exact ⟨_, rest, rfl⟩

/-- After an index byte the displaced-bit table, the index table and the fallback each answer a complete instruction of the bytes
taken, where the base decoding does (R352). -/
theorem complete_encode_of_decodeIndexed {io : Bool} {xy : Idx} {bs : List Byte} {base : Decoded} {i : Instr}
    {rest : List Byte} (hb : ∀ j r, base = .ok (j, r) → j.complete io ∧ encode j ++ r = bs)
    (hd : decodeIndexed xy bs base = .ok (i, rest)) : i.complete io ∧ encode i ++ rest = xy.prefixByte :: bs := by
  match bs with
  | [] => cases hd
  | b1 :: bs =>
    rw [decodeIndexed] at hd
    split at hd
    · next hcb =>
      subst hcb
      exact ⟨yields_twoBytes.2 (ddcbEntry_complete io xy) _ _ _ hd, (ddcb_reads xy).encode_append _ _ _ hd⟩
    · next hcb =>
      split at hd
      · next entry he =>
        exact ⟨indexEntry_complete io xy b1 entry he _ _ _ hd, (indexEntry_reads xy b1 entry he).encode_append _ _ _ hd⟩
      · next hnone =>
        cases base with
        | error => cases hd
        | ok p =>
          obtain ⟨j, r⟩ := p
          cases hd
          obtain ⟨hj, henc⟩ := hb j rest rfl
          have hf : fallsBack (encode j) = true := by
            rw [← fallsBack_append (encode_ne_nil j) rest, henc]
            exact (fallsBack_cons xy).2 ⟨hcb, hnone⟩
          exact ⟨complete_fallback.2 ⟨hj, hf⟩, congrArg (xy.prefixByte :: ·) henc⟩

/-! ### What a decoding reads -/

theorem Idx.ofByte_eq_none {b : Byte} : Idx.ofByte b = none ↔ b ≠ 0xDD ∧ b ≠ 0xFD := by
  unfold Idx.ofByte
  split
  · next hdd => simp [hdd]
  · next hdd =>
    split
    · next hfd => simp [hfd]
    · next hfd => exact iff_of_true rfl ⟨hdd, hfd⟩

theorem isPrefixByte_eq_false {b : Byte} : isPrefixByte b = false ↔ b ≠ 0xCB ∧ b ≠ 0xED ∧ Idx.ofByte b = none := by
  simp [isPrefixByte, Idx.ofByte_eq_none, and_assoc]

theorem Idx.eq_prefixByte_of_ofByte {b : Byte} {xy : Idx} (h : Idx.ofByte b = some xy) : b = xy.prefixByte := by
  unfold Idx.ofByte at h
  split at h
  · cases h
    assumption
  · split at h
    · cases h
      assumption
    · cases h

/-- A byte is one of the prefixes or has an entry of the base table (R100). -/
theorem prefix_cases (b : Byte) : b = 0xCB ∨ b = 0xED ∨ (∃ xy : Idx, b = xy.prefixByte) ∨ isPrefixByte b = false := by
  cases h : Idx.ofByte b with
  | some xy => exact .inr (.inr (.inl ⟨xy, Idx.eq_prefixByte_of_ofByte h⟩))
  | none =>
    by_cases hcb : b = 0xCB
    · exact .inl hcb
    · by_cases hed : b = 0xED
      · exact .inr (.inl hed)
      · exact .inr (.inr (.inr (isPrefixByte_eq_false.2 ⟨hcb, hed, h⟩)))

theorem decode_cons_of_not_prefix (io : Bool) {b : Byte} (h : isPrefixByte b = false) (bs : List Byte) :
    decode io (b :: bs) = baseEntry b bs := by
  obtain ⟨hcb, hed, hxy⟩ := isPrefixByte_eq_false.1 h
  rw [decode, if_neg hcb, if_neg hed, hxy]

theorem cb_reads : Reads [0xCB] (oneByte cbEntry) := reads_oneByte.2 encode_cbEntry

/-- A decoding answers a complete instruction, whose encoding is the bytes taken (R100, R119). -/
theorem complete_encode_of_decode {io : Bool} {bs : List Byte} {i : Instr} {rest : List Byte}
    (hd : decode io bs = .ok (i, rest)) : i.complete io ∧ encode i ++ rest = bs := by
  induction bs generalizing i rest with
  | nil => cases hd
  | cons b bs ih =>
    obtain rfl | rfl | ⟨xy, rfl⟩ | hb := prefix_cases b
    · exact ⟨yields_oneByte.2 (cbEntry_complete io) _ _ _ hd, cb_reads.encode_append _ _ _ hd⟩
    · exact ⟨decodeEd_complete io _ _ _ hd, encode_append_of_decodeEd hd⟩
    · rw [decode_prefixByte_cons] at hd
      exact complete_encode_of_decodeIndexed (fun _ _ h => ih h) hd
    · rw [decode_cons_of_not_prefix io hb] at hd
      exact ⟨baseEntry_complete io b _ _ _ hd, (baseEntry_reads hb).encode_append _ _ _ hd⟩

/-- Settles O3: by induction on the bytes, with each table's entries encoded as the bytes they took. -/
theorem encodeOfDecode : Obligations.EncodeOfDecode := fun _ _ _ _ hd => complete_encode_of_decode hd

/-! ### No encoding is illegal -/

/-- Four bytes after the ignored index bytes are enough for a decoding (R118, R119, R352). -/
theorem decode_answers (io : Bool) {bs : List Byte} (h : indexRun bs + 4 ≤ bs.length) : Answers (decode io bs) := by
  induction bs with
  | nil => simp at h
  | cons b bs ih =>
    have hbs : 3 ≤ bs.length := by
      rw [List.length_cons] at h
      omega
    obtain rfl | rfl | ⟨xy, rfl⟩ | hb := prefix_cases b
    · exact cb_reads.answers bs (Nat.le_of_succ_le hbs)
    · exact decodeEd_answers io hbs
    · rw [indexRun_cons_of_index (xy := xy) (by cases xy <;> rfl), List.length_cons] at h
      rw [decode_prefixByte_cons]
      exact decodeIndexed_answers xy hbs (ih (by omega))
    · rw [decode_cons_of_not_prefix io hb]
      exact (baseEntry_reads hb).answers bs (Nat.le_of_succ_le hbs)

theorem indexRun_append_cons_le (run : List Byte) {b : Byte} (hb : Idx.ofByte b = none) (bs : List Byte) :
    indexRun (run ++ b :: bs) ≤ run.length := by
  induction run with
  | nil => exact (indexRun_cons_of_none hb bs).le
  | cons c run ih =>
    cases hc : Idx.ofByte c with
    | none => simp [indexRun_cons_of_none hc]
    | some xy => simpa [indexRun_cons_of_index hc] using ih

/-- Settles O4: the run of index bytes is at most the one given, and four bytes follow it. -/
theorem everyEncodingDecodes : Obligations.EveryEncodingDecodes := by
  intro io run b b1 b2 b3 bs _ hdd hfd
  have hrun := indexRun_append_cons_le run (Idx.ofByte_eq_none.2 ⟨hdd, hfd⟩) (b1 :: b2 :: b3 :: bs)
  refine decode_answers io ?_
  simp only [List.length_append, List.length_cons]
  omega

/-! ### The tables by their members -/

/-- Settles O1: each word by evaluation of the decoder. -/
theorem decodeSampleWords : Obligations.DecodeSampleWords :=
  ⟨rfl, rfl, rfl, rfl, rfl, rfl, rfl, rfl, rfl, rfl, rfl, rfl, rfl, rfl, rfl, rfl, rfl, rfl, rfl, rfl, rfl, rfl⟩

/-- The members of the index table by the class field x: 18, 38, 24 and 6 (R111). -/
theorem countP_inIndexTable : ((List.range 256).countP fun k => inIndexTable (BitVec.ofNat 8 k)) = 86 := by
  have hsplit : List.range 256 = List.range (64 + 64 + 64 + 64) := rfl
  simp only [hsplit, List.range_add, List.countP_append, List.countP_map]
  have h0 : ((List.range 64).countP fun k => inIndexTable (BitVec.ofNat 8 k)) = 18 := by decide
  have h1 : (List.range 64).countP ((fun k => inIndexTable (BitVec.ofNat 8 k)) ∘ (64 + ·)) = 38 := by decide
  have h2 : (List.range 64).countP ((fun k => inIndexTable (BitVec.ofNat 8 k)) ∘ (64 + 64 + ·)) = 24 := by decide
  have h3 : (List.range 64).countP ((fun k => inIndexTable (BitVec.ofNat 8 k)) ∘ (64 + 64 + 64 + ·)) = 6 := by decide
  rw [h0, h1, h2, h3]

/-- Settles O5: the bytes of each table one by one. -/
theorem tableMembership : Obligations.TableMembership :=
  ⟨by decide, countP_inIndexTable, by decide⟩

end Sys2Proof
end

section
/-! SUPPORT. No instruction is refused, and every step whose fetch ends completes (60_exceptions.md R500, R510, R516). -/

namespace Sys2Proof.Machine

/-- A complete instruction runs in every state, and hangs in none (R516). -/
theorem exec_next_hung {i : Instr} (h : i.core.isPrefixRow = false) (s : State) :
    ∃ t, exec i s = .next t ∧ t.hung = s.hung := by
  obtain ⟨t, ht⟩ := exec_next h s
  obtain ⟨-, -, -, hhung, -⟩ := exec_untouched (Instr.isPrefixRow_of_core h) ht
  exact ⟨t, ht, hhung⟩

/-! ### The interrupt state machine -/

theorem acceptMaskable_next {s : State} {i : Instr} {rest : List Byte}
    (hd : decode s.params.edIoC [s.intData] = .ok (i, rest)) : ∃ t, acceptMaskable s = .next t := by
  obtain h | h | h | h := im_cases s.im
  · obtain ⟨t, ht, -⟩ := modeZero_takeMaskable hd
    exact ⟨t, (acceptMaskable_of_im_zero h).trans ht⟩
  · exact ⟨_, acceptMaskable_of_im_one h⟩
  · exact ⟨_, acceptMaskable_of_im_two h⟩
  · exact ⟨_, acceptMaskable_of_im_three h⟩

@[simp] theorem State.push16_hung (s : State) (v : Word) : (s.push16 v).hung = s.hung := by simp [State.push16]

@[simp] theorem State.enterHandler_hung (s : State) (entry : Word) : (s.enterHandler entry).hung = s.hung := by
  simp [State.enterHandler, State.callTo]

theorem acceptMaskable_hung {s t : State} (h : acceptMaskable s = .next t) : t.hung = s.hung := by
  obtain hz | rfl | rfl | rfl := acceptMaskable_cases h
  · obtain ⟨i, rest, u, hd, hu, rfl⟩ := modeZero_eq_next hz
    obtain ⟨-, -, -, hhung, -⟩ := exec_untouched (Instr.isPrefixRow_of_core (decode_core_complete _ _ _ _ hd).2) hu
    exact hhung
  · simp [State.modeOne, State.takeMaskable, State.wakeMasked]
  · simp [State.modeTwo, State.enterVector, State.sawRead16, State.takeMaskable, State.wakeMasked]
  · rfl

/-- No evaluation of the interrupt state machine hangs. -/
theorem interruptEval_hung {s t : State} (h : interruptEval s = .next t) : t.hung = s.hung := by
  have hcount : s.countDelay.hung = s.hung := by rw [s.countDelay_eq]
  obtain rfl | rfl | ha := interruptEval_cases h
  · exact hcount
  · simp [State.acceptNmi, State.takeNmi, State.wakeMasked, hcount]
  · exact (acceptMaskable_hung ha).trans hcount

/-- The interrupt state machine completes where the data byte is a one-byte instruction (R510). -/
theorem interruptEval_next {s : State} {i : Instr} {rest : List Byte}
    (hd : decode s.params.edIoC [s.intData] = .ok (i, rest)) : ∃ t, interruptEval s = .next t := by
  have hd' : decode s.countDelay.params.edIoC [s.countDelay.intData] = .ok (i, rest) := by rwa [s.countDelay_eq]
  unfold interruptEval arbitrate
  split
  · exact ⟨_, rfl⟩
  · split
    · exact acceptMaskable_next hd'
    · exact ⟨_, rfl⟩

/-! ### The step -/

/-- Where the fetch from PC on meets a byte that is no index byte, there is an instruction at PC (R100, R119). -/
theorem State.prefixesEnd.exists_instrAt {s : State} (h : s.prefixesEnd) : ∃ i, s.instrAt = some i := by
  obtain ⟨n, b, hb, hxy⟩ := h
  have hrun : indexRun (s.bytesAt (n + 4) s.pc) ≤ n := by
    obtain ⟨tl, htl⟩ := s.bytesAt_isPrefix (Nat.le_add_right n 4) s.pc
    rw [← htl, indexRun_append_of_mem hb (Idx.ofByte_eq_none.2 hxy)]
    simpa [indexRun] using (List.takeWhile_sublist (l := s.bytesAt n s.pc) _).length_le
  obtain ⟨i, rest, hd⟩ := decode_answers s.params.edIoC (bs := s.bytesAt (n + 4) s.pc) (by simpa using hrun)
  exact ⟨i, State.instrAt_of_decode hd⟩

/-- An instruction that a step runs completes, and leaves the data byte, the parameters and the mark of a hang. -/
theorem runInstr_next {i : Instr} (h : i.core.isPrefixRow = false) (s : State) :
    ∃ t, runInstr i s = .next t ∧ t.intData = s.intData ∧ t.params = s.params ∧ t.hung = s.hung := by
  obtain ⟨t, ht⟩ := exec_next h (s.fetch i.size)
  obtain ⟨-, -, hint, hhung, hp⟩ := exec_untouched (Instr.isPrefixRow_of_core h) ht
  rw [State.fetch_eq] at hint hhung hp
  exact ⟨t.tick (baseCost s.params.cycleTable i), by rw [runInstr, ht, andThen_next], hint, hp, hhung⟩

/-- Settles O58: by what a step can be, with the instruction and the interrupt state machine each completing. -/
theorem everyStepCompletes : Obligations.EveryStepCompletes := by
  refine ⟨fun io i s h => exec_next_hung h.core.2 s, fun s hhung hend ⟨j, hd⟩ => ?_⟩
  obtain ⟨h, -⟩ | ⟨-, -, hst⟩ | ⟨-, -, i, hi, hst⟩ | ⟨-, hhalt, hnone, -⟩ := step_cases s
  · rw [hhung] at h
    cases h
  · obtain ⟨t, ht⟩ := interruptEval_next (s := s.incR.haltedNoOp) hd
    exact ⟨t, hst.trans ht, (interruptEval_hung ht).trans hhung⟩
  · obtain ⟨u, hu, hint, hp, hh⟩ := runInstr_next (instrAt_core_complete hi).2 s.incR
    obtain ⟨t, ht⟩ := interruptEval_next (s := u) (by rw [hint, hp]; exact hd)
    exact ⟨t, by rw [hst, hu, andThen_next, ht], ((interruptEval_hung ht).trans hh).trans hhung⟩
  · obtain h | h := hend
    · rw [hhalt] at h
      cases h
    · obtain ⟨i, hi⟩ := h.exists_instrAt
      rw [hnone] at hi
      cases hi

end Sys2Proof.Machine
end

section
/-! SUPPORT. The byte addition and subtraction in exact arithmetic (40_alu_flags.md R153 to R155). -/

namespace Sys2Proof.Machine

/-- The sign bit of a byte (R152). -/
theorem getLsbD_seven (v : Byte) : v.getLsbD 7 = decide (128 ≤ v.toNat) := BitVec.msb_eq_decide v

/-! ### Addition -/

section
variable (a b : Byte) (cin : Bool)

theorem toNat_addByte : (addByte a b cin).1.toNat = (a.toNat + b.toNat + cin.toNat) % 256 := BitVec.toNat_ofNat _ _

theorem addByte_halfCarry : (addByte a b cin).2.h = decide (16 ≤ a.toNat % 16 + b.toNat % 16 + cin.toNat) := rfl

theorem addByte_carry : (addByte a b cin).2.c = decide (256 ≤ a.toNat + b.toNat + cin.toNat) := rfl

theorem addByte_carriesDiffer :
    (addByte a b cin).2.pv =
      (decide (128 ≤ a.toNat % 128 + b.toNat % 128 + cin.toNat) ^^ decide (256 ≤ a.toNat + b.toNat + cin.toNat)) := rfl

/-- The carries into and out of bit 7 differ exactly when the signed sum leaves the range of a byte. -/
theorem addByte_signedOverflow :
    (addByte a b cin).2.pv = decide (a.toInt + b.toInt + cin.toNat < -128 ∨ 127 < a.toInt + b.toInt + cin.toNat) := by
  have hcin := cin.toNat_lt
  rw [addByte_carriesDiffer, Bool.eq_iff_iff, Bool.xor_iff_ne, ne_eq, decide_eq_decide, decide_eq_true_eq,
    BitVec.toInt_eq_toNat_cond, BitVec.toInt_eq_toNat_cond]
  split <;> split <;> omega

theorem addByte_zeroFlag : (addByte a b cin).2.z = decide ((a.toNat + b.toNat + cin.toNat) % 256 = 0) := by
  rw [← toNat_addByte]
  exact decide_eq_decide.2 BitVec.toNat_eq

end

/-- Settles O15: each flag by its own rule, and the others read from the result. -/
theorem addByteArithmetic : Obligations.AddByteArithmetic := by
  intro a b cin
  refine ⟨toNat_addByte a b cin, ?_⟩
  rw [← addByte_signedOverflow, ← addByte_zeroFlag]
  rfl

/-! ### Subtraction -/

theorem toNat_not_carry (c : Bool) : (!c).toNat = 1 - c.toNat := by cases c <;> rfl

section
variable (a b : Byte) (cin : Bool)

theorem toNat_subByte : (subByte a b cin).1.toNat = (a.toNat + (256 - b.toNat - cin.toNat)) % 256 := by
  have hcin := cin.toNat_lt
  change (addByte a (~~~b) (!cin)).1.toNat = _
  rw [toNat_addByte, BitVec.toNat_not, toNat_not_carry]
  omega

theorem subByte_result : (subByte a b cin).1 = a - b - BitVec.ofNat 8 cin.toNat := by
  have hcin := cin.toNat_lt
  apply BitVec.eq_of_toNat_eq
  rw [toNat_subByte, BitVec.toNat_sub, BitVec.toNat_sub, BitVec.toNat_ofNat]
  omega

theorem subByte_halfBorrow : (subByte a b cin).2.h = decide (a.toNat % 16 < b.toNat % 16 + cin.toNat) := by
  have hcin := cin.toNat_lt
  change (!(addByte a (~~~b) (!cin)).2.h) = _
  rw [addByte_halfCarry, BitVec.toNat_not, toNat_not_carry, ← decide_not, decide_eq_decide]
  omega

theorem subByte_borrow : (subByte a b cin).2.c = decide (a.toNat < b.toNat + cin.toNat) := by
  have hcin := cin.toNat_lt
  change (!(addByte a (~~~b) (!cin)).2.c) = _
  rw [addByte_carry, BitVec.toNat_not, toNat_not_carry, ← decide_not, decide_eq_decide]
  omega

/-- The carries of the complement's addition differ exactly when the operands' signs differ and the result's sign is not that
of `a`. -/
theorem subByte_overflow :
    (subByte a b cin).2.pv = ((a ^^^ b) &&& (a ^^^ (subByte a b cin).1)).getLsbD 7 := by
  have hcin := cin.toNat_lt
  change (addByte a (~~~b) (!cin)).2.pv = _
  rw [addByte_carriesDiffer, BitVec.toNat_not, toNat_not_carry, BitVec.getLsbD_and, BitVec.getLsbD_xor, BitVec.getLsbD_xor,
    getLsbD_seven, getLsbD_seven, getLsbD_seven, toNat_subByte, Bool.eq_iff_iff]
  simp only [Bool.and_eq_true, Bool.xor_iff_ne, ne_eq, decide_eq_decide]
  omega

end

/-- Settles O16: the borrows and the overflow by their own rules, and the others read from the result. -/
theorem subByteClosedForm : Obligations.SubByteClosedForm := by
  intro a b cin
  refine ⟨subByte_result a b cin, ?_, rfl⟩
  rw [← subByte_halfBorrow, ← subByte_overflow, ← subByte_borrow]
  rfl

end Sys2Proof.Machine
end

section
/-! SUPPORT. Two byte additions, the second with the carry of the first, are one word addition (40_alu_flags.md R160, R161). -/

namespace Sys2Proof.Machine

theorem getLsbD_hiByte (w : Word) {i : Nat} (h : i < 8) : (hiByte w).getLsbD i = w.getLsbD (8 + i) := by
  simp [hiByte, h]

section
variable (a b : Word) (cin : Bool)

/-- The carry out of the low bytes. -/
def lowCarry : Bool := (addByte (loByte a) (loByte b) cin).2.c

theorem toNat_lowCarry : (lowCarry a b cin).toNat = (a.toNat % 256 + b.toNat % 256 + cin.toNat) / 256 := by
  have hcin := cin.toNat_lt
  rw [lowCarry, addByte_carry, toNat_loByte, toNat_loByte]
  by_cases h : 256 ≤ a.toNat % 256 + b.toNat % 256 + cin.toNat
  · rw [decide_eq_true h, Bool.toNat_true]
    omega
  · rw [decide_eq_false h, Bool.toNat_false]
    omega

theorem mkWord_addByte :
    mkWord (addByte (hiByte a) (hiByte b) (lowCarry a b cin)).1 (addByte (loByte a) (loByte b) cin).1 =
      a + b + BitVec.ofNat 16 cin.toNat := by
  apply BitVec.eq_of_toNat_eq
  simp only [toNat_mkWord, toNat_addByte, toNat_hiByte, toNat_loByte, toNat_lowCarry, BitVec.toNat_add, BitVec.toNat_ofNat]
  omega

theorem addByte_hiByte_halfCarry :
    (addByte (hiByte a) (hiByte b) (lowCarry a b cin)).2.h =
      decide (4096 ≤ a.toNat % 4096 + b.toNat % 4096 + cin.toNat) := by
  rw [addByte_halfCarry, toNat_hiByte, toNat_hiByte, toNat_lowCarry, decide_eq_decide]
  omega

theorem addByte_hiByte_carry :
    (addByte (hiByte a) (hiByte b) (lowCarry a b cin)).2.c = decide (65536 ≤ a.toNat + b.toNat + cin.toNat) := by
  rw [addByte_carry, toNat_hiByte, toNat_hiByte, toNat_lowCarry, decide_eq_decide]
  omega

end

theorem addWord_eq (f : Flags) (a b : Word) :
    addWord f a b =
      (a + b,
        { f with
          y := (a + b).getLsbD 13
          h := decide (4096 ≤ a.toNat % 4096 + b.toNat % 4096)
          x := (a + b).getLsbD 11
          n := false
          c := decide (65536 ≤ a.toNat + b.toNat) }) := by
  have hsum := mkWord_addByte a b false
  have hh := addByte_hiByte_halfCarry a b false
  have hc := addByte_hiByte_carry a b false
  rw [Bool.toNat_false] at hsum hh hc
  rw [BitVec.add_zero] at hsum
  have hhi : (addByte (hiByte a) (hiByte b) (lowCarry a b false)).1 = hiByte (a + b) := by rw [← hsum, hiByte_mkWord]
  have hy := getLsbD_hiByte (a + b) (i := 5) (by decide)
  have hx := getLsbD_hiByte (a + b) (i := 3) (by decide)
  rw [← hy, ← hx, ← hhi, ← hsum]
  rw [Nat.add_zero] at hh hc
  rw [← hh, ← hc]
  rfl

/-- Settles O20: both forms by the word addition. -/
theorem addWordResults : Obligations.AddWordResults := by
  intro s p xy q fl
  constructor
  · rw [exec, execAddHlRp, addWord_eq]
    rfl
  · rw [exec, execAddXyRp, addWord_eq]
    rfl

end Sys2Proof.Machine
end

section
/-! SUPPORT. Parity, the logic operations, and DAA and NEG (40_alu_flags.md R151, R158, R163; 42_base_arith.md R266;
46_extended.md R438). -/

namespace Sys2Proof.Machine

/-! ### Parity and the logic operations -/

theorem countP_range_eight (p : Nat → Bool) :
    (List.range 8).countP p =
      (p 0).toNat + (p 1).toNat + (p 2).toNat + (p 3).toNat + (p 4).toNat + (p 5).toNat + (p 6).toNat + (p 7).toNat := by
  have hite (c : Bool) : (if c then 1 else 0) = c.toNat := by cases c <;> rfl
  simp only [List.range_succ, List.range_zero, List.countP_append, List.countP_cons, List.countP_nil, hite, Nat.zero_add]

theorem parityEven_eq (v : Byte) : parityEven v = decide (((List.range 8).countP fun k => v.getLsbD k) % 2 = 0) := by
  rw [countP_range_eight]
  rfl

/-- Settles O17: the parity by the count of the bits, and the flags by definition. -/
theorem logicFlagsRule : Obligations.LogicFlagsRule := ⟨parityEven_eq, fun _ _ _ => ⟨rfl, rfl, rfl⟩⟩

/-! ### DAA -/

theorem bcdCorrection_eq (a : Byte) (f : Flags) :
    bcdCorrection a f =
      BitVec.ofNat 8
        ((if f.c = true ∨ 0x99 < a.toNat then 0x60 else 0) + if f.h = true ∨ 9 < a.toNat % 16 then 6 else 0) := by
  simp only [bcdCorrection, Bool.or_eq_true, decide_eq_true_eq]
  split <;> split <;> rfl

theorem toNat_bcdCorrection (a : Byte) (f : Flags) :
    (bcdCorrection a f).toNat =
      (if f.c = true ∨ 0x99 < a.toNat then 0x60 else 0) + if f.h = true ∨ 9 < a.toNat % 16 then 6 else 0 := by
  rw [bcdCorrection_eq, BitVec.toNat_ofNat]
  split <;> split <;> rfl

theorem bcdCorrect_eq (a : Byte) (f : Flags) :
    bcdCorrect a f =
      let g := if f.n then subByte a (bcdCorrection a f) false else addByte a (bcdCorrection a f) false
      (g.1,
        { s := g.1.getLsbD 7, z := decide (g.1 = 0), y := g.1.getLsbD 5, h := g.2.h, x := g.1.getLsbD 3
          pv := parityEven g.1, n := f.n, c := decide (f.c = true ∨ 0x99 < a.toNat) }) := by
  have hc : (f.c || decide (a.toNat > 0x99)) = decide (f.c = true ∨ 0x99 < a.toNat) := by
    rw [Bool.decide_or, Bool.decide_eq_true]
  rw [bcdCorrect, hc]
  rfl

/-! ### NEG -/

/-- Only 80H and its negation are both negative (R438). -/
theorem subByte_zero_left_overflow (a : Byte) : (subByte 0 a false).2.pv = decide (a = 0x80) := by
  have hxor (v : Byte) : 0 ^^^ v = v := BitVec.zero_xor
  rw [subByte_overflow, hxor, hxor, BitVec.getLsbD_and, getLsbD_seven, getLsbD_seven, toNat_subByte, ← Bool.decide_and,
    decide_eq_decide]
  bv_omega

theorem subByte_zero_left (a : Byte) :
    subByte 0 a false =
      (0 - a,
        { s := (0 - a).getLsbD 7, z := decide (a = 0), y := (0 - a).getLsbD 5, h := decide (a.toNat % 16 ≠ 0)
          x := (0 - a).getLsbD 3, pv := decide (a = 0x80), n := true, c := decide (a ≠ 0) }) := by
  have hres : (subByte 0 a false).1 = 0 - a := (subByte_result 0 a false).trans (BitVec.sub_zero _)
  have hz : decide (0 - a = 0) = decide (a = 0) := by rw [decide_eq_decide, zero_sub, neg_eq_zero]
  have hh : (subByte 0 a false).2.h = decide (a.toNat % 16 ≠ 0) := by
    rw [subByte_halfBorrow, decide_eq_decide]
    exact Nat.pos_iff_ne_zero
  have hc : (subByte 0 a false).2.c = decide (a ≠ 0) := by
    rw [subByte_borrow, decide_eq_decide]
    exact (BitVec.toNat_ne.trans Nat.pos_iff_ne_zero.symm).symm
  rw [← hz, ← subByte_zero_left_overflow, ← hh, ← hc, ← hres]
  rfl

/-- Settles O22: DAA by its correction, NEG by the subtraction from 0. -/
theorem daaAndNegResults : Obligations.DaaAndNegResults := by
  intro s
  constructor
  · rw [exec, execDaa, bcdCorrect_eq, bcdCorrection_eq]
    rfl
  · rw [exec, execNeg, subByte_zero_left]
    rfl

end Sys2Proof.Machine
end

section
/-! SUPPORT. Packed decimals: what DAA makes of a sum and of a difference (40_alu_flags.md R163). -/

namespace Sys2Proof.Machine

/-- The two decimal digits of a number below 100, one in each nibble. -/
def packedBcd (k : Nat) : Byte := BitVec.ofNat 8 (k / 10 * 16 + k % 10)

theorem toNat_packedBcd {k : Nat} (h : k < 100) : (packedBcd k).toNat = k / 10 * 16 + k % 10 :=
  (BitVec.toNat_ofNat _ _).trans (Nat.mod_eq_of_lt (by omega))

theorem toNat_packedBcd_digits {t u : Nat} (ht : t < 10) (hu : u < 10) : (packedBcd (10 * t + u)).toNat = t * 16 + u := by
  rw [toNat_packedBcd (by omega)]
  omega

theorem exists_digits {k : Nat} (h : k < 100) : ∃ t u, t < 10 ∧ u < 10 ∧ k = 10 * t + u :=
  ⟨k / 10, k % 10, Nat.div_lt_of_lt_mul h, Nat.mod_lt _ (by decide), (Nat.div_add_mod k 10).symm⟩

/-! ### By the digits -/

section
variable {x₁ x₀ y₁ y₀ : Nat} (hx₁ : x₁ < 10) (hx₀ : x₀ < 10) (hy₁ : y₁ < 10) (hy₀ : y₀ < 10)
include hx₁ hx₀ hy₁ hy₀

/-- After the addition of two packed decimals the two tests of DAA find the decimal carries. -/
theorem bcdTests_addByte :
    let g := addByte (packedBcd (10 * x₁ + x₀)) (packedBcd (10 * y₁ + y₀)) false
    ((g.2.h = true ∨ 9 < g.1.toNat % 16) ↔ 10 ≤ x₀ + y₀) ∧
      ((g.2.c = true ∨ 0x99 < g.1.toNat) ↔ 100 ≤ 10 * x₁ + x₀ + (10 * y₁ + y₀)) := by
  simp only [addByte_halfCarry, addByte_carry, toNat_addByte, toNat_packedBcd_digits hx₁ hx₀, toNat_packedBcd_digits hy₁ hy₀,
    decide_eq_true_eq, Bool.toNat_false]
  omega

/-- After the subtraction of two packed decimals the two tests of DAA find the decimal borrows. -/
theorem bcdTests_subByte :
    let g := subByte (packedBcd (10 * x₁ + x₀)) (packedBcd (10 * y₁ + y₀)) false
    ((g.2.h = true ∨ 9 < g.1.toNat % 16) ↔ x₀ < y₀) ∧
      ((g.2.c = true ∨ 0x99 < g.1.toNat) ↔ 10 * x₁ + x₀ < 10 * y₁ + y₀) := by
  simp only [subByte_halfBorrow, subByte_borrow, toNat_subByte, toNat_packedBcd_digits hx₁ hx₀,
    toNat_packedBcd_digits hy₁ hy₀, decide_eq_true_eq, Bool.toNat_false]
  omega

/-- The packed sum is the sum of the packed forms, and 6 more in each digit that carries. -/
theorem toNat_packedBcd_sum :
    (packedBcd ((10 * x₁ + x₀ + (10 * y₁ + y₀)) % 100)).toNat =
      (x₁ * 16 + x₀ + (y₁ * 16 + y₀) +
        ((if 100 ≤ 10 * x₁ + x₀ + (10 * y₁ + y₀) then 0x60 else 0) + if 10 ≤ x₀ + y₀ then 6 else 0)) % 256 := by
  have hmod : (10 * x₁ + x₀ + (10 * y₁ + y₀)) % 100 =
      10 * x₁ + x₀ + (10 * y₁ + y₀) - if 100 ≤ 10 * x₁ + x₀ + (10 * y₁ + y₀) then 100 else 0 := by
    split <;> omega
  rw [toNat_packedBcd (Nat.mod_lt _ (by decide)), hmod]
  split <;> split <;> omega

/-- The packed difference is the difference of the packed forms, and 6 less in each digit that borrows. -/
theorem toNat_packedBcd_difference :
    (packedBcd ((10 * x₁ + x₀ + 100 - (10 * y₁ + y₀)) % 100)).toNat =
      (x₁ * 16 + x₀ + (256 - (y₁ * 16 + y₀)) +
        (256 - ((if 10 * x₁ + x₀ < 10 * y₁ + y₀ then 0x60 else 0) + if x₀ < y₀ then 6 else 0))) % 256 := by
  have hmod : (10 * x₁ + x₀ + 100 - (10 * y₁ + y₀)) % 100 =
      10 * x₁ + x₀ + (if 10 * x₁ + x₀ < 10 * y₁ + y₀ then 100 else 0) - (10 * y₁ + y₀) := by
    split <;> omega
  rw [toNat_packedBcd (Nat.mod_lt _ (by decide)), hmod]
  split <;> split <;> omega

end

/-! ### DAA after an addition and after a subtraction -/

section
variable {x y : Nat} (hx : x < 100) (hy : y < 100)
include hx hy

theorem bcdCorrect_addByte :
    let g := addByte (packedBcd x) (packedBcd y) false
    (bcdCorrect g.1 g.2).1 = packedBcd ((x + y) % 100) ∧ (bcdCorrect g.1 g.2).2.c = decide (100 ≤ x + y) := by
  obtain ⟨x₁, x₀, hx₁, hx₀, rfl⟩ := exists_digits hx
  obtain ⟨y₁, y₀, hy₁, hy₀, rfl⟩ := exists_digits hy
  intro g
  obtain ⟨hsix, hsixty⟩ := bcdTests_addByte hx₁ hx₀ hy₁ hy₀
  rw [bcdCorrect_eq]
  refine ⟨BitVec.eq_of_toNat_eq ?_, decide_eq_decide.2 hsixty⟩
  change (addByte g.1 (bcdCorrection g.1 g.2) false).1.toNat = _
  rw [toNat_addByte, toNat_bcdCorrection, if_congr hsix rfl rfl, if_congr hsixty rfl rfl, toNat_addByte,
    toNat_packedBcd_digits hx₁ hx₀, toNat_packedBcd_digits hy₁ hy₀, toNat_packedBcd_sum hx₁ hx₀ hy₁ hy₀]
  exact Nat.mod_add_mod _ _ _

theorem bcdCorrect_subByte :
    let g := subByte (packedBcd x) (packedBcd y) false
    (bcdCorrect g.1 g.2).1 = packedBcd ((x + 100 - y) % 100) ∧ (bcdCorrect g.1 g.2).2.c = decide (x < y) := by
  obtain ⟨x₁, x₀, hx₁, hx₀, rfl⟩ := exists_digits hx
  obtain ⟨y₁, y₀, hy₁, hy₀, rfl⟩ := exists_digits hy
  intro g
  obtain ⟨hsix, hsixty⟩ := bcdTests_subByte hx₁ hx₀ hy₁ hy₀
  rw [bcdCorrect_eq]
  refine ⟨BitVec.eq_of_toNat_eq ?_, decide_eq_decide.2 hsixty⟩
  change (subByte g.1 (bcdCorrection g.1 g.2) false).1.toNat = _
  rw [toNat_subByte, toNat_bcdCorrection, if_congr hsix rfl rfl, if_congr hsixty rfl rfl, toNat_subByte,
    toNat_packedBcd_digits hx₁ hx₀, toNat_packedBcd_digits hy₁ hy₀, toNat_packedBcd_difference hx₁ hx₀ hy₁ hy₀]
  exact Nat.mod_add_mod _ _ _

end

/-- Settles O23: the flags ADD and SUB leave make DAA correct exactly the digits that carry or borrow. -/
theorem bcdRoundTrip : Obligations.BcdRoundTrip := by
  intro s x y hx hy packed
  exact ⟨⟨_, _, rfl, rfl, bcdCorrect_addByte hx hy⟩, ⟨_, _, rfl, rfl, bcdCorrect_subByte hx hy⟩⟩

end Sys2Proof.Machine
end

section
/-! SUPPORT. The rotates and shifts as arithmetic (40_alu_flags.md R159). -/

namespace Sys2Proof.Machine

/-- A carry as a byte has no bit but bit 0. -/
theorem getLsbD_carryByte (c : Bool) (i : Nat) : (BitVec.ofNat 8 c.toNat).getLsbD i = (decide (i = 0) && c) := by
  cases c <;> simp [Bool.and_comm]

theorem toNat_shiftLeft_one (v : Byte) : (v <<< 1).toNat = 2 * v.toNat % 256 := by
  rw [BitVec.toNat_shiftLeft, Nat.shiftLeft_eq, Nat.mul_comm]

theorem toNat_ushiftRight_one (v : Byte) : (v >>> 1).toNat = v.toNat / 2 := BitVec.toNat_ushiftRight v 1

/-- A left shift leaves bit 0 for the bit moved in. -/
theorem toNat_shiftLeft_or_carry (v : Byte) (c : Bool) :
    ((v <<< 1) ||| BitVec.ofNat 8 c.toNat).toNat = (2 * v.toNat + c.toNat) % 256 := by
  have hdisjoint : (v <<< 1) &&& BitVec.ofNat 8 c.toNat = 0#8 := by
    ext i hi
    simp only [← BitVec.getLsbD_eq_getElem, BitVec.getLsbD_and, BitVec.getLsbD_shiftLeft, getLsbD_carryByte]
    by_cases h : i = 0 <;> simp [h]
  rw [← BitVec.add_eq_or_of_and_eq_zero _ _ hdisjoint, BitVec.toNat_add, toNat_shiftLeft_one, BitVec.toNat_ofNat]
  omega

/-- A right shift leaves bit 7 for the bit moved in. -/
theorem toNat_ushiftRight_or_carry (v : Byte) (c : Bool) :
    ((v >>> 1) ||| (BitVec.ofNat 8 c.toNat <<< 7)).toNat = v.toNat / 2 + 128 * c.toNat := by
  have hc := c.toNat_lt
  have hdisjoint : (v >>> 1) &&& (BitVec.ofNat 8 c.toNat <<< 7) = 0#8 := by
    ext i hi
    simp only [← BitVec.getLsbD_eq_getElem, BitVec.getLsbD_and, BitVec.getLsbD_shiftLeft, BitVec.getLsbD_ushiftRight]
    by_cases h : i = 7
    · simp [h]
    · have hlt : i < 7 := by omega
      simp [hlt]
  rw [← BitVec.add_eq_or_of_and_eq_zero _ _ hdisjoint, BitVec.toNat_add, toNat_ushiftRight_one, BitVec.toNat_shiftLeft,
    BitVec.toNat_ofNat, Nat.shiftLeft_eq]
  omega

/-- Bit 7 put back after a shift to the right is the sign of an arithmetic shift. -/
theorem rotResult_sra (v : Byte) (cin : Bool) : rotResult .sra v cin = v.sshiftRight 1 := by
  change (v >>> 1) ||| (v &&& BitVec.twoPow 8 7) = v.sshiftRight 1
  ext i hi
  simp only [BitVec.getElem_or, BitVec.getElem_and, BitVec.getElem_ushiftRight, BitVec.getElem_twoPow,
    BitVec.getElem_sshiftRight]
  by_cases h : i = 7
  · subst h
    simp [BitVec.msb_eq_getLsbD_last]
  · have hlt : 1 + i < 8 := by omega
    simp [h, hlt]

theorem toInt_rotResult_sra (v : Byte) (cin : Bool) : (rotResult .sra v cin).toInt = v.toInt / 2 := by
  rw [rotResult_sra, BitVec.toInt_sshiftRight, Int.shiftRight_eq_div_pow]
  rfl

/-- Settles O34: the moved-in bit is added to the shifted byte, and SRA is the arithmetic shift. -/
theorem rotateShiftArithmetic : Obligations.RotateShiftArithmetic := by
  intro k v cin
  refine ⟨rfl, rfl, toNat_shiftLeft_or_carry v cin, toNat_ushiftRight_or_carry v cin, toNat_shiftLeft_one v,
    toInt_rotResult_sra v cin, toNat_shiftLeft_or_carry v true, toNat_ushiftRight_one v, ?_⟩
  cases k with
  | rlc | rl | sla | sll => exact getLsbD_seven v
  | rrc | rr | sra | srl => exact Nat.testBit_zero _

end Sys2Proof.Machine
end

section
/-! SUPPORT. The results of the loads, the counts of pairs, the stack instructions and the exchanges (41_base_load.md R200 to
R220, 42_base_arith.md R263 and R264, 44_index.md R357, R358, R373 to R375). A word access, a push or a swap is the accesses to
its two bytes, and those of HL are H and L. -/

namespace Sys2Proof.Machine

@[simp] theorem State.hiByte_hl (s : State) : hiByte s.hl = s.h := hiByte_mkWord s.h s.l

@[simp] theorem State.loByte_hl (s : State) : loByte s.hl = s.l := loByte_mkWord s.h s.l

theorem State.setHl_mkWord (s : State) (hi lo : Byte) : s.setHl (mkWord hi lo) = { s with h := hi, l := lo } := by
  rw [State.setHl, hiByte_mkWord, loByte_mkWord]

/-- Two bytes read into HL go to its halves, the first to L (R64, R212, R220). -/
theorem State.setHl_peek16 (t s : State) (x : Word) :
    t.setHl (s.peek16 x) = { t with l := s.peek x, h := (s.sawRead x).peek (x + 1) } :=
  t.setHl_mkWord ((s.sawRead x).peek (x + 1)) (s.peek x)

/-- HL is stored as its halves, L first (R64, R213). -/
theorem State.writeWord_hl (s : State) (x : Word) :
    s.writeWord x s.hl = (s.writeByte x s.l).writeByte (x + 1) s.h := by
  rw [State.writeWord, State.loByte_hl, State.hiByte_hl]

/-- The swap of HL with the top of the stack writes H, then L, after the two reads (R66, R220). -/
theorem State.swapTop_hl (s : State) :
    s.swapTop s.hl = ((s.sawRead16 s.sp).writeByte (s.sp + 1) s.h).writeByte s.sp s.l := by
  rw [State.swapTop, State.hiByte_hl, State.loByte_hl]

/-- A push is two stores below SP, the high byte first, and then the count of SP by 2 (R215). -/
theorem State.push16_eq_stores (s : State) (v : Word) :
    s.push16 v =
      { (s.writeByte (s.sp - 1) (hiByte v)).writeByte (s.sp - 2) (loByte v) with sp := s.sp - 2 } :=
  s.push16_eq v

/-! ### The meanings that move HL through memory -/

theorem exec_ldHlAbs_eq (s : State) (nn : Word) :
    exec (.ldHlAbs nn) s = .next { s.sawRead16 nn with l := s.peek nn, h := (s.sawRead nn).peek (nn + 1) } :=
  congrArg Host.Outcome.next ((s.sawRead16 nn).setHl_peek16 s nn)

theorem exec_ldAbsHl_eq (s : State) (nn : Word) :
    exec (.ldAbsHl nn) s = .next ((s.writeByte nn s.l).writeByte (nn + 1) s.h) :=
  congrArg Host.Outcome.next (s.writeWord_hl nn)

theorem exec_exSpHl_eq (s : State) :
    exec .exSpHl s =
      .next
        { ((s.sawRead16 s.sp).writeByte (s.sp + 1) s.h).writeByte s.sp s.l with
          l := s.peek s.sp, h := (s.sawRead s.sp).peek (s.sp + 1) } := by
  rw [← State.setHl_peek16, ← State.swapTop_hl]
  rfl

/-! ### The obligations -/

/-- Settles O9: every meaning is one register write, by definition. -/
theorem registerLoadAndCountResults : Obligations.RegisterLoadAndCountResults := by
  intro s dst src n p nn xy
  exact ⟨rfl, rfl, rfl, rfl, rfl, rfl, rfl, rfl⟩

/-- Settles O10: a byte load is one read by definition, and HL takes the two bytes read as its halves. -/
theorem memoryLoadResults : Obligations.MemoryLoadResults := by
  intro s r nn read
  exact ⟨rfl, rfl, rfl, rfl, exec_ldHlAbs_eq s nn⟩

/-- Settles O11: a byte store is one write by definition, and HL is stored as its halves. -/
theorem storeResults : Obligations.StoreResults := by
  intro s r n nn store
  exact ⟨rfl, rfl, rfl, rfl, rfl, exec_ldAbsHl_eq s nn⟩

/-- Settles O12: a push is two stores below SP, and a pop and a swap are their two reads and writes by definition. -/
theorem stackResults : Obligations.StackResults := by
  intro s p xy read store pushed seen top
  have hpush (v : Word) : s.push16 v = pushed v := s.push16_eq_stores v
  exact ⟨congrArg Host.Outcome.next (hpush (s.rp2 p)), rfl, congrArg Host.Outcome.next (hpush (s.xy xy)), rfl, rfl⟩

/-- Settles O14: EX DE,HL and EX (SP),HL by the halves of the pairs, the exchanges with the shadow set by definition. -/
theorem exchangeResults : Obligations.ExchangeResults := by
  intro s read store seen
  exact ⟨exec_exDeHl_eq s, rfl, rfl, exec_exSpHl_eq s⟩

end Sys2Proof.Machine
end

section
/-! SUPPORT. The results of the ALU operations in their operand forms, of INC and DEC of a byte, and of the accumulator
operations (40_alu_flags.md R156, R157, R159; 42_base_arith.md R250 to R262 and R267 to R273; 44_index.md R360 to R369). -/

namespace Sys2Proof.Machine

/-! ### The eight ALU operations -/

/-- Settles O18: with the operation fixed each meaning is one ALU record, by definition; a form that names its operation
takes it by the case. -/
theorem aluResults : Obligations.AluResults := by
  intro s r n d xy op put seen m alu
  have halu (v : Byte) : aluByte op s.f s.a v = alu op v := by cases op <;> rfl
  have hput (u : State) (v : Byte) :
      (.next (put u (aluByte op s.f s.a v)) : Host.Outcome State Fault Refusal) = .next (put u (alu op v)) := by
    rw [halu]
  exact ⟨rfl, rfl, rfl, rfl, rfl, rfl, rfl, rfl, rfl, rfl, rfl, rfl, rfl, rfl, rfl, rfl, rfl, rfl, rfl, rfl, rfl, rfl, rfl,
    rfl, hput s (s.xyH xy), hput s (s.xyL xy), hput _ (s.peek (s.ea xy d))⟩

/-! ### INC and DEC of a byte -/

/-- The signed sum leaves the range only from 7FH to 80H (R156). -/
theorem addByte_one_overflow (v : Byte) : (addByte v 1 false).2.pv = decide (v = 0x7F) := by
  rw [addByte_carriesDiffer, Bool.eq_iff_iff, Bool.xor_iff_ne, ne_eq, decide_eq_decide, decide_eq_true_eq,
    ← BitVec.toNat_inj]
  change ¬(128 ≤ v.toNat % 128 + 1 % 128 + 0 ↔ 256 ≤ v.toNat + 1 + 0) ↔ v.toNat = 127
  omega

theorem incByte_eq (f : Flags) (v : Byte) :
    incByte f v =
      (v + 1,
        { s := (v + 1).getLsbD 7, z := decide (v + 1 = 0), y := (v + 1).getLsbD 5, h := decide (v.toNat % 16 = 15)
          x := (v + 1).getLsbD 3, pv := decide (v = 0x7F), n := false, c := f.c }) := by
  have hres : (addByte v 1 false).1 = v + 1 := BitVec.eq_of_toNat_eq (toNat_addByte v 1 false)
  have hh : (addByte v 1 false).2.h = decide (v.toNat % 16 = 15) := by
    rw [addByte_halfCarry, decide_eq_decide]
    change 16 ≤ v.toNat % 16 + 1 % 16 + 0 ↔ _
    omega
  rw [← addByte_one_overflow, ← hh, ← hres]
  rfl

/-- The signed difference leaves the range only from 80H to 7FH (R157). -/
theorem subByte_one_overflow (v : Byte) : (subByte v 1 false).2.pv = decide (v = 0x80) := by
  change (addByte v 0xFE true).2.pv = _
  rw [addByte_carriesDiffer, Bool.eq_iff_iff, Bool.xor_iff_ne, ne_eq, decide_eq_decide, decide_eq_true_eq,
    ← BitVec.toNat_inj]
  change ¬(128 ≤ v.toNat % 128 + 254 % 128 + 1 ↔ 256 ≤ v.toNat + 254 + 1) ↔ v.toNat = 128
  omega

theorem decByte_eq (f : Flags) (v : Byte) :
    decByte f v =
      (v - 1,
        { s := (v - 1).getLsbD 7, z := decide (v - 1 = 0), y := (v - 1).getLsbD 5, h := decide (v.toNat % 16 = 0)
          x := (v - 1).getLsbD 3, pv := decide (v = 0x80), n := true, c := f.c }) := by
  have hres : (subByte v 1 false).1 = v - 1 := (subByte_result v 1 false).trans (BitVec.sub_zero _)
  have hh : (subByte v 1 false).2.h = decide (v.toNat % 16 = 0) := by
    rw [subByte_halfBorrow, decide_eq_decide]
    exact Nat.lt_one_iff
  rw [← subByte_one_overflow, ← hh, ← hres]
  rfl

/-- Settles O19: every form puts the result of `incByte` or `decByte` in its operand's place and then its flags. -/
theorem incDecByteResults : Obligations.IncDecByteResults := by
  intro s r xy d up down rmw ea
  have hinc (place : Byte → State) (v : Byte) :
      (.next ((place (incByte s.f v).1).setFlags (incByte s.f v).2) : Host.Outcome State Fault Refusal) =
        .next { place (v + 1) with f := up v } := by
    rw [incByte_eq, State.setFlags]
  have hdec (place : Byte → State) (v : Byte) :
      (.next ((place (decByte s.f v).1).setFlags (decByte s.f v).2) : Host.Outcome State Fault Refusal) =
        .next { place (v - 1) with f := down v } := by
    rw [decByte_eq, State.setFlags]
  exact ⟨hinc (s.setReg8 r) _, hdec (s.setReg8 r) _,
    hinc ((s.sawRead s.hl).writeByte s.hl) _, hdec ((s.sawRead s.hl).writeByte s.hl) _,
    hinc (s.setXyH xy) _, hdec (s.setXyH xy) _, hinc (s.setXyL xy) _, hdec (s.setXyL xy) _,
    hinc (((s.formEa xy d).sawRead ea).writeByte ea) _, hdec (((s.formEa xy d).sawRead ea).writeByte ea) _⟩

/-! ### The accumulator operations -/

theorem getLsbD_not_of_lt (v : Byte) {i : Nat} (h : i < 8) : (~~~v).getLsbD i = !v.getLsbD i := by
  rw [BitVec.getLsbD_not, decide_eq_true h, Bool.true_and]

/-- Seven places to the right only bit 7 is left (R159). -/
theorem ushiftRight_seven (v : Byte) : v >>> 7 = BitVec.ofNat 8 (v.getLsbD 7).toNat := by
  apply BitVec.eq_of_getLsbD_eq
  intro i _
  rw [BitVec.getLsbD_ushiftRight, getLsbD_carryByte]
  cases i with
  | zero => rfl
  | succ i =>
    rw [BitVec.getLsbD_of_ge v _ (by omega)]
    rfl

/-- Seven places to the left only bit 0 is left (R159). -/
theorem shiftLeft_seven (v : Byte) : v <<< 7 = BitVec.ofNat 8 (v.getLsbD 0).toNat <<< 7 := by
  apply BitVec.eq_of_getLsbD_eq
  intro i hi
  rw [BitVec.getLsbD_shiftLeft, BitVec.getLsbD_shiftLeft, getLsbD_carryByte]
  by_cases h : i < 7
  · simp [h]
  · obtain rfl : i = 7 := by omega
    rfl

theorem rotResult_rlc (v : Byte) (cin : Bool) :
    rotResult .rlc v cin = (v <<< 1) ||| BitVec.ofNat 8 (v.getLsbD 7).toNat :=
  congrArg (v <<< 1 ||| ·) (ushiftRight_seven v)

theorem rotResult_rrc (v : Byte) (cin : Bool) :
    rotResult .rrc v cin = (v >>> 1) ||| (BitVec.ofNat 8 (v.getLsbD 0).toNat <<< 7) :=
  congrArg (v >>> 1 ||| ·) (shiftLeft_seven v)

/-- Settles O24: CPL by the complement's bits, RLCA and RRCA by the bit moved around, the others by definition. -/
theorem accumulatorOperationResults : Obligations.AccumulatorOperationResults := by
  intro s rot bit
  refine ⟨?_, rfl, rfl, ?_, ?_, rfl, rfl⟩
  · rw [exec, execCpl, getLsbD_not_of_lt _ (by decide), getLsbD_not_of_lt _ (by decide)]
    rfl
  · rw [exec, execRlca, State.rotA, rotResult_rlc]
    rfl
  · rw [exec, execRrca, State.rotA, rotResult_rrc]
    rfl

end Sys2Proof.Machine
end

section
/-! SUPPORT. A prefix row goes on with the instruction that its bytes and those at PC decode to (43_base_control.md R317 to R319;
44_index.md R352, R353, R378). -/

namespace Sys2Proof.Machine

/-- Going on with what the bytes decode to: a complete instruction, which runs and then costs its whole base cost. -/
theorem resume_of_decode {pre : List Byte} {s : State} {i : Instr} {rest : List Byte}
    (hd : decode s.params.edIoC (pre ++ s.window s.pc) = .ok (i, rest)) :
    ∃ t, exec i (s.fetch (i.size - pre.length)) = .next t ∧
      resume pre s = .next (t.tick (baseCost s.params.cycleTable i)) := by
  have hrow : i.core.isPrefixRow = false := (decode_core_complete _ _ _ _ hd).2
  obtain ⟨t, ht⟩ := exec_next hrow (s.fetch (i.size - pre.length))
  refine ⟨t, ht, ?_⟩
  rw [exec_eq_runComplete (Instr.isPrefixRow_of_core hrow)] at ht
  simp only [resume, hd, ht, andThen_next]

/-- Going on where the bytes never give an instruction: the fetch goes on for ever (R353). -/
theorem resume_of_error {pre : List Byte} {s : State} {r : Reject}
    (hd : decode s.params.edIoC (pre ++ s.window s.pc) = .error r) : resume pre s = .next s.hangOn := by
  simp only [resume, hd]

/-- The three bytes after 0xED decide the instruction, whatever the window shows after them (R110, R118). -/
theorem decodeEd_window (s : State) (io : Bool) :
    ∃ i rest rest', decodeEd io (s.bytesAt 3 s.pc) = .ok (i, rest) ∧ decodeEd io (s.window s.pc) = .ok (i, rest') := by
  obtain ⟨i, rest, hd⟩ := decodeEd_answers io (bs := s.bytesAt 3 s.pc) (s.length_bytesAt 3 s.pc).ge
  have hwindow : (s.bytesAt 3 s.pc).take 3 <+: s.window s.pc := by
    rw [State.take_bytesAt]
    exact s.bytesAt_isPrefix (by omega) s.pc
  obtain ⟨rest', hd'⟩ := decodeEd_decided io _ _ _ _ hd hwindow
  exact ⟨i, rest, rest', hd, hd'⟩

/-- Where the run of index bytes at PC ends, an index byte before it is part of an instruction (R352). -/
theorem State.prefixesEnd.decode_indexed {s : State} (h : s.prefixesEnd) (xy : Idx) :
    Answers (decode s.params.edIoC (xy.prefixByte :: s.window s.pc)) := by
  rw [decode_prefixByte_cons]
  refine decodeIndexed_answers xy (by simp [State.window]) ?_
  obtain ⟨i, hi⟩ := h.exists_instrAt
  unfold State.instrAt at hi
  split at hi
  · next j rest hd => exact ⟨j, rest, hd⟩
  · cases hi

/-- Where the run of index bytes at PC never ends, an index byte before it only makes it longer (R353). -/
theorem decode_indexed_of_endless {s : State} (h : ¬ s.prefixesEnd) (io : Bool) (xy : Idx) :
    ∃ r, decode io (xy.prefixByte :: s.window s.pc) = .error r := by
  cases hd : decode io (xy.prefixByte :: s.window s.pc) with
  | error r => exact ⟨r, rfl⟩
  | ok p =>
    obtain ⟨b, hb, hnone⟩ := exists_nonIndex_of_decode io hd
    obtain rfl | hb := List.mem_cons.1 hb
    · cases xy <;> cases hnone
    · exact absurd ⟨_, b, hb, Idx.ofByte_eq_none.1 hnone⟩ h

/-- Settles O30: each prefix row goes on with what the window at PC decodes to behind its bytes; one byte decides it after CB, two
after DD CB, three after ED, and after DD or FD the end of the run. -/
theorem prefixRowsGoOn : Obligations.PrefixRowsGoOn := by
  intro s xy cost displaced
  refine ⟨?_, ?_, fun hend => ?_, fun hend => ?_, ?_⟩
  · obtain ⟨t, ht, hgo⟩ := resume_of_decode (pre := [0xCB]) (s := s) (i := cbEntry (s.peek s.pc)) rfl
    rw [Instr.size, encode_cbEntry] at ht
    exact ⟨t, ht, hgo⟩
  · obtain ⟨i, rest, rest', hd, hd'⟩ := decodeEd_window s s.params.edIoC
    obtain ⟨t, ht, hgo⟩ := resume_of_decode (pre := [0xED]) hd'
    exact ⟨i, rest, t, hd, ht, hgo⟩
  · obtain ⟨i, rest, hd⟩ := hend.decode_indexed xy
    obtain ⟨t, ht, hgo⟩ := resume_of_decode (pre := [xy.prefixByte]) hd
    exact ⟨_, i, rest, t, hd, ht, hgo⟩
  · obtain ⟨r, hd⟩ := decode_indexed_of_endless hend s.params.edIoC xy
    exact resume_of_error (pre := [xy.prefixByte]) hd
  · obtain ⟨t, ht, hgo⟩ :=
      resume_of_decode (pre := [xy.prefixByte, 0xCB]) (i := displaced) (decode_prefixByte_cons _ xy (0xCB :: s.window s.pc))
    rw [Instr.size, encode_ddcbEntry] at ht
    exact ⟨t, ht, hgo⟩

end Sys2Proof.Machine
end

section
/-! SUPPORT. The results of the jumps, the calls and returns, the port instructions and the machine control
(43_base_control.md R300 to R316 and R320; 44_index.md R376; 46_extended.md R432, R433, R440, R466). -/

namespace Sys2Proof.Machine

/-! ### The jumps -/

/-- Counting B down ends the loop at 0, and from 0 wraps and jumps (R305). -/
theorem exec_djnz_eq (s : State) (e : Byte) :
    exec (.djnz e) s =
      .next
        (if s.b = 1 then { s with b := 0 }
        else { s with b := s.b - 1, pc := s.pc + e.signExtend 16, cycles := s.params.count (s.cycles + 5) }) := by
  rw [exec, execDjnz]
  by_cases hb : s.b = 1
  · rw [if_pos (sub_eq_zero.2 hb), if_pos hb, sub_eq_zero.2 hb]
  · rw [if_neg (sub_ne_zero.2 hb), if_neg hb]
    rfl

/-- Settles O25: the conditions one by one, DJNZ by the value of B, the others by definition. -/
theorem jumpResults : Obligations.JumpResults := by
  intro s nn e cc xy taken
  have htaken : s.f.holds cc = taken cc := by cases cc <;> rfl
  have hcond (t : State) :
      (.next (if s.f.holds cc then t else s) : Host.Outcome State Fault Refusal) = .next (if taken cc then t else s) := by
    rw [htaken]
  exact ⟨rfl, rfl, hcond _, rfl, hcond _, exec_djnz_eq s e, rfl, rfl⟩

/-! ### The calls and returns -/

/-- An RST target fits in the byte it is given as (R310). -/
theorem zeroExtend_rstTarget (y : Fin 8) : (BitVec.ofNat 8 (8 * y)).zeroExtend 16 = BitVec.ofNat 16 (8 * y) := by
  revert y
  decide

/-- Settles O26: a call is two stores below SP and a jump, a return two reads at SP by definition. -/
theorem callReturnResults : Obligations.CallReturnResults := by
  intro s nn cc y read store pushed back
  have hcall (x : Word) : s.callTo x = { pushed with pc := x } := by
    rw [State.callTo_eq, State.push16_eq_stores]
    rfl
  have hcallCc :
      exec (.callCc cc nn) s =
        .next (if s.f.holds cc then { pushed with pc := nn, cycles := s.params.count (s.cycles + 7) } else s) := by
    rw [exec, execCallCc, hcall]
    rfl
  have hrst : exec (.rst (BitVec.ofNat 8 (8 * y))) s = .next { pushed with pc := BitVec.ofNat 16 (8 * y) } := by
    rw [exec, execRst, zeroExtend_rstTarget, hcall]
  exact ⟨congrArg Host.Outcome.next (hcall nn), hcallCc, rfl, rfl, hrst, rfl⟩

/-! ### The ports and the machine control -/

/-- Settles O28: each meaning is one port call and one register write, by definition. -/
theorem portResults : Obligations.PortResults := by
  intro s n r v
  exact ⟨rfl, rfl, rfl, rfl⟩

/-- Settles O29: each meaning is one record, by definition. -/
theorem machineControlResults : Obligations.MachineControlResults := by
  intro s op
  exact ⟨rfl, rfl, rfl, rfl⟩

end Sys2Proof.Machine
end

section
/-! SUPPORT. What keeps a step from completing: the hang of an endless run of index prefixes (44_index.md R353), and the refusal of
a mode-0 data byte (60_exceptions.md R510). -/

namespace Sys2Proof.Machine

/-! ### The hang -/

/-- Bytes at PC that give an instruction are no endless run of index bytes (R353). -/
theorem State.prefixesEnd_of_instrAt {s : State} {i : Instr} (h : s.instrAt = some i) : s.prefixesEnd := by
  unfold State.instrAt at h
  split at h
  · next hd =>
    obtain ⟨b, hb, hnone⟩ := exists_nonIndex_of_decode _ hd
    exact ⟨_, b, hb, Idx.ofByte_eq_none.1 hnone⟩
  · cases h

/-- There is no instruction at PC exactly where the index bytes there never end (R119, R353). -/
theorem State.instrAt_eq_none {s : State} : s.instrAt = none ↔ ¬ s.prefixesEnd := by
  rw [← not_iff_not, not_not, ← ne_eq, Option.ne_none_iff_exists']
  exact ⟨fun ⟨_, hi⟩ => State.prefixesEnd_of_instrAt hi, State.prefixesEnd.exists_instrAt⟩

/-- Where the run of index bytes ends after one more fetch, it ends. -/
theorem State.prefixesEnd_of_hangOn {s : State} (h : s.hangOn.prefixesEnd) : s.prefixesEnd := by
  obtain ⟨n, b, hb, hne⟩ := h
  rw [State.bytesAt_congr (u := s.hangOn) (s := s.sawRead s.pc) rfl rfl] at hb
  exact ⟨n + 1, b, List.mem_cons_of_mem _ hb, hne⟩

/-- Everything a step of a machine that is not hung can be: an evaluation of the interrupt state machine on a state that has the
old requests and no hang, or the first fetch of a hang. -/
theorem step_cases_of_not_hung {s : State} (hhung : s.hung = false) :
    ((s.halted = true ∨ s.prefixesEnd) ∧
      ∃ u, step s = interruptEval u ∧ u.hung = false ∧ u.nmiPending = s.nmiPending ∧ u.intPending = s.intPending ∧
        u.intData = s.intData ∧ u.params = s.params) ∨
    (s.halted = false ∧ ¬ s.prefixesEnd ∧ step s = .next s.incR.hangOn) := by
  obtain ⟨hu, -⟩ | ⟨-, hhalt, hst⟩ | ⟨-, -, i, hi, hst⟩ | ⟨-, hhalt, hnone, hst⟩ := step_cases s
  · rw [hhung] at hu
    cases hu
  · exact .inl ⟨.inl hhalt, _, hst, hhung, rfl, rfl, rfl, rfl⟩
  · have hrow := (instrAt_core_complete hi).2
    obtain ⟨u, hu⟩ := exec_next hrow (s.incR.fetch i.size)
    obtain ⟨hnmi, hint, hdata, hh, hp⟩ := exec_untouched (Instr.isPrefixRow_of_core hrow) hu
    rw [State.fetch_eq] at hnmi hint hdata hh hp
    refine .inl ⟨.inr (State.prefixesEnd_of_instrAt hi), u.tick (baseCost s.params.cycleTable i), ?_, hh.trans hhung, hnmi,
      hint, hdata, hp⟩
    rw [hst, runInstr, hu]
    rfl
  · exact .inr ⟨hhalt, State.instrAt_eq_none.1 hnone, hst⟩

/-- Where the index bytes at PC never end, the step counts R and begins the hang (R353, R504). -/
theorem step_of_endless {s : State} (hhung : s.hung = false) (hhalt : s.halted = false) (hend : ¬ s.prefixesEnd) :
    step s = .next s.incR.hangOn := by
  obtain ⟨hgo, -⟩ | ⟨-, -, hst⟩ := step_cases_of_not_hung hhung
  · exact absurd hgo (by simp [hhalt, hend])
  · exact hst

/-! ### The refusal -/

/-- Only a data byte that needs more bytes is refused: a one-byte instruction runs (R510, R516). -/
theorem modeZero_eq_refused {s : State} {r : Refusal} (h : modeZero s = .refused r) :
    r = .modeZeroNeedsOperands s.intData ∧ decode s.params.edIoC [s.intData] = .error .needsMoreBytes := by
  cases hd : decode s.params.edIoC [s.intData] with
  | error e =>
    rw [modeZero, hd] at h
    cases h
    cases e
    exact ⟨rfl, rfl⟩
  | ok p =>
    obtain ⟨t, ht⟩ := exec_next (decode_core_complete _ _ _ _ hd).2 s
    rw [modeZero_of_decode hd, ht] at h
    cases h

/-- Modes 1 and 2, and the diagnostic of mode 3, complete. -/
theorem acceptMaskable_eq_refused {s : State} {r : Refusal} (h : acceptMaskable s = .refused r) :
    r = .modeZeroNeedsOperands s.intData ∧ decode s.params.edIoC [s.intData] = .error .needsMoreBytes := by
  obtain him | him | him | him := im_cases s.im
  · rw [acceptMaskable_of_im_zero him] at h
    exact modeZero_eq_refused (s := s.takeMaskable) h
  · rw [acceptMaskable_of_im_one him] at h
    cases h
  · rw [acceptMaskable_of_im_two him] at h
    cases h
  · rw [acceptMaskable_of_im_three him] at h
    cases h

/-- An evaluation is refused in a maskable acceptance alone, which an NMI goes before (R507). -/
theorem interruptEval_eq_refused {s : State} {r : Refusal} (h : interruptEval s = .refused r) :
    r = .modeZeroNeedsOperands s.intData ∧ s.nmiPending = false ∧ s.intPending = true ∧
      decode s.params.edIoC [s.intData] = .error .needsMoreBytes := by
  cases hn : s.nmiPending with
  | true => simp [interruptEval, arbitrate, hn] at h
  | false =>
    by_cases hdue : s.countDelay.maskableDue = true
    · obtain ⟨hint, -⟩ := State.maskableDue_eq_true.1 hdue
      rw [interruptEval_of_due hn hdue] at h
      obtain ⟨hr, hd⟩ := acceptMaskable_eq_refused h
      rw [s.countDelay_eq] at hr hint hd
      exact ⟨hr, rfl, hint, hd⟩
    · rw [interruptEval_of_not_due hn hdue] at h
      cases h

/-! ### The obligation -/

/-- Settles O59: a step that is no fetch of a hang is an evaluation of the interrupt state machine, which hangs in no case and is
refused in one. -/
theorem stopsAreTheSpecsStops : Obligations.StopsAreTheSpecsStops := by
  intro s fetched
  refine ⟨step_of_endless, step_of_hung, mt State.prefixesEnd_of_hangOn, fun t hhung h => ?_, fun r h => ?_⟩
  · obtain ⟨hgo, u, hst, hu, -⟩ | ⟨hhalt, hend, hst⟩ := step_cases_of_not_hung hhung
    · rw [hst] at h
      rw [interruptEval_hung h, hu]
      exact iff_of_false Bool.false_ne_true fun ⟨hhalt, hend⟩ => absurd hgo (by simp [hhalt, hend])
    · rw [hst] at h
      cases h
      exact iff_of_true rfl ⟨hhalt, hend⟩
  · cases hhung : s.hung with
    | true =>
      rw [step_of_hung hhung] at h
      cases h
    | false =>
      obtain ⟨-, u, hst, -, hnmi, hint, hdata, hp⟩ | ⟨-, -, hst⟩ := step_cases_of_not_hung hhung
      · rw [hst] at h
        obtain ⟨hr, hn, hi, hd⟩ := interruptEval_eq_refused h
        rw [hdata] at hr
        rw [hp, hdata] at hd
        exact ⟨hr, rfl, hnmi.symm.trans hn, hint.symm.trans hi, hd⟩
      · rw [hst] at h
        cases h

end Sys2Proof.Machine
end

section
/-! SUPPORT. The fallback, and the results of the loads of the index table (44_index.md R351 to R377; 46_extended.md R436,
R437). -/

namespace Sys2Proof.Machine

/-! ### The fallback -/

/-- Settles O31: the fallback is the entry in the five tables of the instruction after it, which no complete one misses. -/
theorem fallbackIsTheInstruction : Obligations.FallbackIsTheInstruction := by
  refine ⟨rfl, fun io s xy i h => ?_⟩
  obtain ⟨t, ht⟩ := exec_next h.core.2 s
  have hfall : exec (.fallback xy i) s = exec i s := (exec_eq_runComplete h.2 s).symm
  exact ⟨t, ht, hfall.trans ht, fun _ => rfl⟩

/-! ### The loads -/

/-- Settles O32: a word load is two reads and a word store two writes, in that order, by definition. -/
theorem wordLoadResults : Obligations.WordLoadResults := by
  intro s xy nn p read seen v stored
  exact ⟨rfl, rfl, rfl, rfl, rfl, rfl⟩

/-- Settles O33: each form is its register or bus operation by definition, LD r',r'' once its two operands are fixed. -/
theorem indexByteLoadResults : Obligations.IndexByteLoadResults := by
  intro s xy n d r dst src ea stored
  refine ⟨rfl, rfl, rfl, rfl, rfl, ?_⟩
  cases dst <;> cases src <;> rfl

end Sys2Proof.Machine
end

section
/-! SUPPORT. The results of the CB table and of the displaced-bit table (40_alu_flags.md R159, R164; 45_bit_ops.md R401 to
R411 and R413 to R416). -/

namespace Sys2Proof.Machine

/-! ### The read and the write of a memory byte -/

/-- The byte is read once and the result written once, even where it is the byte read; then the flags are written (R400). -/
theorem State.modifyByte_eq (s : State) (x : Word) (g : Byte → Byte × Flags) :
    s.modifyByte x g =
      { s with
        mem := Memory.write s.mem x.toNat (g (s.peek x)).1
        answers := s.answers.tail
        bus := .write x (g (s.peek x)).1 :: .read x (s.peek x) :: s.bus
        f := (g (s.peek x)).2 } := rfl

/-- The byte is read once and the result written once, even where it is the byte read (R410, R415). -/
theorem State.mapByte_eq (s : State) (x : Word) (g : Byte → Byte) :
    s.mapByte x g =
      { s with
        mem := Memory.write s.mem x.toNat (g (s.peek x))
        answers := s.answers.tail
        bus := .write x (g (s.peek x)) :: .read x (s.peek x) :: s.bus } := rfl

/-! ### The rotates and shifts -/

theorem rotShift_eq (k : Rot) (v : Byte) (cin : Bool) :
    rotShift k v cin =
      (rotResult k v cin,
        { s := (rotResult k v cin).getLsbD 7, z := decide (rotResult k v cin = 0), y := (rotResult k v cin).getLsbD 5
          h := false, x := (rotResult k v cin).getLsbD 3, pv := parityEven (rotResult k v cin), n := false
          c := rotCarry k v }) := rfl

/-- Settles O35: each form puts what `rotShift` gives in its operand's place, and (XY+d) records its address first. -/
theorem rotateShiftResults : Obligations.RotateShiftResults := by
  intro s r xy d z fl reg mem disp
  have hreg (k : Rot) : (.next (s.rotReg k r) : Host.Outcome State Fault Refusal) = .next (reg k) := by
    rw [State.rotReg, rotShift_eq, State.setFlags]
  have hmem (k : Rot) (u : State) (x : Word) (hf : u.f = s.f) :
      (.next (u.rotMem k x) : Host.Outcome State Fault Refusal) = .next (mem u x k) := by
    rw [State.rotMem, State.modifyByte_eq, rotShift_eq, hf]
  have hhl (k : Rot) := hmem k s s.hl rfl
  have hxyd (k : Rot) := hmem k (s.formEa xy d) (s.ea xy d) (s.formEa_f xy d)
  exact ⟨hreg .rlc, hhl .rlc, hxyd .rlc, hreg .rrc, hhl .rrc, hxyd .rrc, hreg .rl, hhl .rl, hxyd .rl,
    hreg .rr, hhl .rr, hxyd .rr, hreg .sla, hhl .sla, hxyd .sla, hreg .sra, hhl .sra, hxyd .sra,
    hreg .sll, hhl .sll, hxyd .sll, hreg .srl, hhl .srl, hxyd .srl⟩

/-! ### BIT -/

theorem bitMask_ne_zero : ∀ b : Fin 8, bitMask b ≠ 0#8 := by decide

theorem parityEven_bitMask : ∀ b : Fin 8, parityEven (bitMask b) = false := by decide

theorem parityEven_zero : parityEven 0#8 = true := rfl

theorem getLsbD_bitMask_seven : ∀ b : Fin 8, (bitMask b).getLsbD 7 = decide (b = 7) := by decide

/-- The mask leaves the tested bit alone. -/
theorem and_bitMask (v : Byte) (b : Fin 8) : v &&& bitMask b = if v.getLsbD b then bitMask b else 0#8 :=
  BitVec.and_twoPow v b

/-- fS is the bit where it is bit 7, and a byte with no other bit is of even parity exactly where the bit is 0 (R164). -/
theorem bitTest_eq (f : Flags) (b : Fin 8) (v src : Byte) :
    bitTest f b v src =
      { s := decide (b = 7) && v.getLsbD 7, z := !v.getLsbD b, y := src.getLsbD 5, h := true, x := src.getLsbD 3
        pv := !v.getLsbD b, n := false, c := f.c } := by
  have hs : (v &&& bitMask b).getLsbD 7 = (decide (b = 7) && v.getLsbD 7) := by
    rw [BitVec.getLsbD_and, getLsbD_bitMask_seven, Bool.and_comm]
  rw [bitTest, hs, and_bitMask]
  cases v.getLsbD b with
  | true => simp [bitMask_ne_zero, parityEven_bitMask]
  | false => simp [parityEven_zero]

/-- Settles O36: each form writes the flags of `bitTest`, those of (HL) and (XY+d) after one read. -/
theorem bitTestResults : Obligations.BitTestResults := by
  intro s b z r xy d fl ea
  have hflags (u : State) (v src : Byte) :
      (.next (u.setFlags (bitTest s.f b v src)) : Host.Outcome State Fault Refusal) = .next { u with f := fl v src } := by
    rw [bitTest_eq, State.setFlags]
  exact ⟨hflags s (s.reg8 r) (s.reg8 r), hflags (s.sawRead s.hl) (s.peek s.hl) (hiByte s.addrReg),
    hflags ((s.formEa xy d).sawRead ea) (s.peek ea) (hiByte ea)⟩

/-! ### RES and SET -/

/-- Settles O37: a register form is one register write by definition, a memory form one read and one write of the byte. -/
theorem bitResetSetResults : Obligations.BitResetSetResults := by
  intro s b z r xy d off on rmw ea
  have hmap (u : State) (x : Word) (g : Byte → Byte) :
      (.next (u.mapByte x g) : Host.Outcome State Fault Refusal) = .next (rmw u x g) := by
    rw [State.mapByte_eq]
  exact ⟨rfl, hmap s s.hl (clearBit b), hmap (s.formEa xy d) ea (clearBit b),
    rfl, hmap s s.hl (raiseBit b), hmap (s.formEa xy d) ea (raiseBit b)⟩

end Sys2Proof.Machine
end

section
/-! SUPPORT. ADC HL,rp and SBC HL,rp: the carry chain of two byte additions in 16-bit arithmetic (40_alu_flags.md R161, R162;
46_extended.md R434, R435). SBC is the addition of the one's complement, as it is for bytes (R154). -/

namespace Sys2Proof.Machine

theorem loByte_not (w : Word) : loByte (~~~w) = ~~~loByte w := by
  apply BitVec.eq_of_toNat_eq
  rw [toNat_loByte, BitVec.toNat_not, BitVec.toNat_not, toNat_loByte]
  omega

theorem hiByte_not (w : Word) : hiByte (~~~w) = ~~~hiByte w := by
  apply BitVec.eq_of_toNat_eq
  rw [toNat_hiByte, BitVec.toNat_not, BitVec.toNat_not, toNat_hiByte]
  omega

section
variable (a b : Word) (cin : Bool)

/-! ### Addition with carry -/

theorem adcWord_result : (adcWord a b cin).1 = a + b + BitVec.ofNat 16 cin.toNat := mkWord_addByte a b cin

theorem adcWord_halfCarry :
    (adcWord a b cin).2.h = decide (4096 ≤ a.toNat % 4096 + b.toNat % 4096 + cin.toNat) :=
  addByte_hiByte_halfCarry a b cin

theorem adcWord_carry : (adcWord a b cin).2.c = decide (65536 ≤ a.toNat + b.toNat + cin.toNat) :=
  addByte_hiByte_carry a b cin

/-- The carries into and out of bit 15 differ exactly when the signed sum leaves the range of a word. -/
theorem adcWord_overflow :
    (adcWord a b cin).2.pv = decide (a.toInt + b.toInt + cin.toNat < -32768 ∨ 32767 < a.toInt + b.toInt + cin.toNat) := by
  have hcin := cin.toNat_lt
  change (addByte (hiByte a) (hiByte b) (lowCarry a b cin)).2.pv = _
  rw [addByte_carriesDiffer, toNat_hiByte, toNat_hiByte, toNat_lowCarry, Bool.eq_iff_iff, Bool.xor_iff_ne, ne_eq,
    decide_eq_decide, decide_eq_true_eq, BitVec.toInt_eq_toNat_cond, BitVec.toInt_eq_toNat_cond]
  split <;> split <;> omega

/-- The flags that are read from the word, the others left to their own rules (R161). -/
theorem adcWord_flags :
    (adcWord a b cin).2 =
      { s := (adcWord a b cin).1.getLsbD 15, z := decide ((adcWord a b cin).1 = 0), y := (adcWord a b cin).1.getLsbD 13
        h := (adcWord a b cin).2.h, x := (adcWord a b cin).1.getLsbD 11, pv := (adcWord a b cin).2.pv, n := false
        c := (adcWord a b cin).2.c } := by
  have hbit {i : Nat} (hi : i < 8) :
      (addByte (hiByte a) (hiByte b) (lowCarry a b cin)).1.getLsbD i = (adcWord a b cin).1.getLsbD (8 + i) := by
    rw [← getLsbD_hiByte _ hi]
    exact congrArg (·.getLsbD i) (hiByte_mkWord _ _).symm
  rw [← hbit (i := 7) (by decide), ← hbit (i := 5) (by decide), ← hbit (i := 3) (by decide)]
  rfl

/-! ### Subtraction with borrow -/

theorem sbcWord_eq_adcWord_not :
    sbcWord a b cin =
      ((adcWord a (~~~b) (!cin)).1,
        { (adcWord a (~~~b) (!cin)).2 with
          h := !(adcWord a (~~~b) (!cin)).2.h, n := true, c := !(adcWord a (~~~b) (!cin)).2.c }) := by
  simp only [adcWord, sbcWord, subByte, loByte_not, hiByte_not, Bool.not_not]

theorem sbcWord_result : (sbcWord a b cin).1 = a - b - BitVec.ofNat 16 cin.toNat := by
  have hcin := cin.toNat_lt
  apply BitVec.eq_of_toNat_eq
  rw [sbcWord_eq_adcWord_not, adcWord_result, BitVec.toNat_add, BitVec.toNat_add, BitVec.toNat_sub, BitVec.toNat_sub,
    BitVec.toNat_not, BitVec.toNat_ofNat, BitVec.toNat_ofNat, toNat_not_carry]
  omega

theorem sbcWord_halfBorrow : (sbcWord a b cin).2.h = decide (a.toNat % 4096 < b.toNat % 4096 + cin.toNat) := by
  have hcin := cin.toNat_lt
  rw [sbcWord_eq_adcWord_not, adcWord_halfCarry, BitVec.toNat_not, toNat_not_carry, ← decide_not, decide_eq_decide]
  omega

theorem sbcWord_borrow : (sbcWord a b cin).2.c = decide (a.toNat < b.toNat + cin.toNat) := by
  have hcin := cin.toNat_lt
  rw [sbcWord_eq_adcWord_not, adcWord_carry, BitVec.toNat_not, toNat_not_carry, ← decide_not, decide_eq_decide]
  omega

/-- The complement of `b` is `-b - 1`, and the carry in makes up for the 1. -/
theorem sbcWord_overflow :
    (sbcWord a b cin).2.pv = decide (a.toInt - b.toInt - cin.toNat < -32768 ∨ 32767 < a.toInt - b.toInt - cin.toNat) := by
  have hcin := cin.toNat_lt
  have hnot : (~~~b).toInt = -b.toInt - 1 := by
    rw [BitVec.toInt_eq_toNat_cond, BitVec.toInt_eq_toNat_cond, BitVec.toNat_not]
    split <;> split <;> omega
  rw [sbcWord_eq_adcWord_not, adcWord_overflow, hnot, toNat_not_carry, decide_eq_decide]
  omega

/-- The flags that are read from the word, the others left to their own rules (R162). -/
theorem sbcWord_flags :
    (sbcWord a b cin).2 =
      { s := (sbcWord a b cin).1.getLsbD 15, z := decide ((sbcWord a b cin).1 = 0), y := (sbcWord a b cin).1.getLsbD 13
        h := (sbcWord a b cin).2.h, x := (sbcWord a b cin).1.getLsbD 11, pv := (sbcWord a b cin).2.pv, n := true
        c := (sbcWord a b cin).2.c } := by
  rw [sbcWord_eq_adcWord_not, adcWord_flags]

end

/-- Settles O21: each flag by its own rule, and the others read from the word. -/
theorem adcSbcWordResults : Obligations.AdcSbcWordResults := by
  intro s p cin sum dif up down
  constructor
  · rw [exec, execAdcHlRp, adcWord_flags, adcWord_result, adcWord_halfCarry, adcWord_overflow, adcWord_carry]
    rfl
  · rw [exec, execSbcHlRp, sbcWord_flags, sbcWord_result, sbcWord_halfBorrow, sbcWord_overflow, sbcWord_borrow]
    rfl

end Sys2Proof.Machine
end

section
/-! SUPPORT. RETN, the interrupt modes, the loads of I and R, and the nibble rotates (46_extended.md R439, R441 to R449). -/

namespace Sys2Proof.Machine

/-! ### A byte as two nibbles -/

theorem shiftLeft_four : ∀ v : Byte, v <<< 4 = (v.extractLsb' 0 4 ++ 0#4 : BitVec (4 + 4)) := by decide

theorem ushiftRight_four : ∀ v : Byte, v >>> 4 = (0#4 ++ v.extractLsb' 4 4 : BitVec (4 + 4)) := by decide

theorem and_lowNibble : ∀ v : Byte, v &&& 0x0F = (0#4 ++ v.extractLsb' 0 4 : BitVec (4 + 4)) := by decide

theorem and_highNibble : ∀ v : Byte, v &&& 0xF0 = (v.extractLsb' 4 4 ++ 0#4 : BitVec (4 + 4)) := by decide

theorem or_append_nibbles (p q : BitVec 4) :
    ((p ++ 0#4 : BitVec (4 + 4)) ||| (0#4 ++ q : BitVec (4 + 4))) = p ++ q := by
  rw [BitVec.or_append, BitVec.or_zero, BitVec.zero_or]

/-- The low nibble of A goes up in RRD: its own high nibble is masked away first (R449). -/
theorem and_lowNibble_shiftLeft_four (v : Byte) :
    (v &&& 0x0F) <<< 4 = (v.extractLsb' 0 4 ++ 0#4 : BitVec (4 + 4)) := by
  rw [shiftLeft_four, and_lowNibble, BitVec.extractLsb'_append_eq_right]

theorem exec_rld_eq (s : State) :
    exec .rld s =
      .next
        (s.nibbleRotate ((s.peek s.hl).extractLsb' 0 4 ++ s.a.extractLsb' 0 4 : BitVec (4 + 4))
          (s.a.extractLsb' 4 4 ++ (s.peek s.hl).extractLsb' 4 4 : BitVec (4 + 4))) := by
  have hmem : (s.peek s.hl <<< 4) ||| (s.a &&& 0x0F) =
      ((s.peek s.hl).extractLsb' 0 4 ++ s.a.extractLsb' 0 4 : BitVec (4 + 4)) := by
    rw [shiftLeft_four, and_lowNibble, or_append_nibbles]
  have hacc : (s.a &&& (0xF0 : Byte)) ||| (s.peek s.hl >>> 4) =
      (s.a.extractLsb' 4 4 ++ (s.peek s.hl).extractLsb' 4 4 : BitVec (4 + 4)) := by
    rw [and_highNibble, ushiftRight_four, or_append_nibbles]
  exact congrArg Host.Outcome.next (congrArg₂ s.nibbleRotate hmem hacc)

theorem exec_rrd_eq (s : State) :
    exec .rrd s =
      .next
        (s.nibbleRotate (s.a.extractLsb' 0 4 ++ (s.peek s.hl).extractLsb' 4 4 : BitVec (4 + 4))
          (s.a.extractLsb' 4 4 ++ (s.peek s.hl).extractLsb' 0 4 : BitVec (4 + 4))) := by
  rw [exec, execRrd, and_lowNibble_shiftLeft_four, ushiftRight_four, and_highNibble, and_lowNibble, or_append_nibbles,
    or_append_nibbles]

/-- Settles O38: RLD and RRD by the nibbles of the two bytes, the others by definition. -/
theorem extendedControlResults : Obligations.ExtendedControlResults := by
  intro s read fl v out
  exact ⟨rfl, rfl, rfl, rfl, rfl, rfl, rfl, rfl, exec_rld_eq s, exec_rrd_eq s⟩

end Sys2Proof.Machine
end

section
/-! SUPPORT. One iteration of the block instructions as one record each, and the repetition (46_extended.md R431, R450 to
R465). -/

namespace Sys2Proof.Machine

theorem bne_zero_eq_decide {w : Nat} (v : BitVec w) : (v != 0) = decide (v ≠ 0) := by
  rw [bne, beq_eq_decide, decide_not]

/-! ### The repetition -/

/-- One rewind, while the condition holds (R431). -/
theorem State.repeatWhile_eq (s : State) (again : Bool) :
    s.repeatWhile again =
      if again then { s with pc := s.pc - 2, cycles := s.params.count (s.cycles + 5) } else s := rfl

theorem State.repeatWhile_moreBc (s : State) :
    s.repeatWhile s.moreBc =
      if s.bc = 0 then s else { s with pc := s.pc - 2, cycles := s.params.count (s.cycles + 5) } := by
  simp only [State.repeatWhile_eq, State.moreBc, bne_iff_ne, ne_eq, ite_not]

theorem State.repeatWhile_moreSearch (s : State) :
    s.repeatWhile s.moreSearch =
      if s.bc ≠ 0 ∧ s.f.z = false then { s with pc := s.pc - 2, cycles := s.params.count (s.cycles + 5) } else s := by
  simp only [State.repeatWhile_eq, State.moreSearch, Bool.and_eq_true, bne_iff_ne, Bool.not_eq_true']

theorem State.repeatWhile_moreB (s : State) :
    s.repeatWhile s.moreB =
      if s.b = 0 then s else { s with pc := s.pc - 2, cycles := s.params.count (s.cycles + 5) } := by
  simp only [State.repeatWhile_eq, State.moreB, bne_iff_ne, ne_eq, ite_not]

section
variable (s : State) (dir : Word)

/-! ### The copy -/

theorem State.blockCopy_eq :
    s.blockCopy dir =
      { ((s.setHl (s.hl + dir)).setDe (s.de + dir)).setBc (s.bc - 1) with
        mem := Memory.write s.mem s.de.toNat (s.peek s.hl)
        answers := s.answers.tail
        bus := .write s.de (s.peek s.hl) :: .read s.hl (s.peek s.hl) :: s.bus
        f :=
          { s.f with
            y := (s.a + s.peek s.hl).getLsbD 1, h := false, x := (s.a + s.peek s.hl).getLsbD 3
            pv := decide (s.bc - 1 ≠ 0), n := false } } := by
  simp only [State.blockCopy, State.setFlags, copyFlags, State.setBc, State.setDe, State.setHl, State.writeByte,
    State.sawRead, bne_zero_eq_decide]

theorem State.bc_blockCopy : (s.blockCopy dir).bc = s.bc - 1 := mkWord_hiByte_loByte _

/-! ### The comparison -/

theorem blockCompareFlags_eq (f : Flags) (a v : Byte) (more : Bool) :
    blockCompareFlags f a v more =
      { s := (a - v).getLsbD 7, z := decide (a = v)
        y := (a - v - BitVec.ofNat 8 (decide (a.toNat % 16 < v.toNat % 16)).toNat).getLsbD 1
        h := decide (a.toNat % 16 < v.toNat % 16)
        x := (a - v - BitVec.ofNat 8 (decide (a.toNat % 16 < v.toNat % 16)).toNat).getLsbD 3
        pv := more, n := true, c := f.c } := by
  have hres : (subByte a v false).1 = a - v := (subByte_result a v false).trans (BitVec.sub_zero _)
  have hz : (subByte a v false).2.z = decide (a = v) := by
    change ((subByte a v false).1 == 0) = _
    rw [hres, beq_eq_decide, decide_eq_decide]
    exact sub_eq_zero
  have hh : (subByte a v false).2.h = decide (a.toNat % 16 < v.toNat % 16) := subByte_halfBorrow a v false
  rw [← hz, ← hh, ← hres]
  rfl

theorem State.blockCompare_eq :
    s.blockCompare dir =
      { (s.setHl (s.hl + dir)).setBc (s.bc - 1) with
        addrReg := s.addrReg + dir
        answers := s.answers.tail
        bus := .read s.hl (s.peek s.hl) :: s.bus
        f := blockCompareFlags s.f s.a (s.peek s.hl) (decide (s.bc - 1 ≠ 0)) } := by
  rw [← bne_zero_eq_decide]
  rfl

theorem State.bc_blockCompare : (s.blockCompare dir).bc = s.bc - 1 := mkWord_hiByte_loByte _

/-! ### The port transfers -/

theorem State.blockIoStep_eq :
    s.blockIoStep dir =
      { s.setHl (s.hl + dir) with
        b := s.b - 1
        addrReg := s.addrReg + dir
        f := { s.f with z := decide (s.b - 1 = 0), n := true } } := by
  rw [← beq_eq_decide]
  rfl

theorem State.blockIn_eq :
    s.blockIn dir =
      { (s.sawPortIn s.c).setHl (s.hl + dir) with
        mem := Memory.write s.mem s.hl.toNat (s.portValue s.c)
        bus := .write s.hl (s.portValue s.c) :: .portIn s.c (s.portValue s.c) :: s.bus
        b := s.b - 1
        addrReg := s.addrReg + dir
        f := { s.f with z := decide (s.b - 1 = 0), n := true } } := by
  rw [State.blockIn, State.blockIoStep_eq, State.sawPortIn_eq]
  rfl

theorem State.blockOut_eq :
    s.blockOut dir =
      { s.setHl (s.hl + dir) with
        answers := s.answers.tail
        bus := .portOut s.c (s.peek s.hl) :: .read s.hl (s.peek s.hl) :: s.bus
        b := s.b - 1
        addrReg := s.addrReg + dir
        f := { s.f with z := decide (s.b - 1 = 0), n := true } } := by
  rw [State.blockOut, State.blockIoStep_eq]
  rfl

end

/-! ### The obligations -/

/-- Settles O39: one copy is one record, and the repetition is decided by the BC it leaves. -/
theorem blockCopyResults : Obligations.BlockCopyResults := by
  intro s v copied again
  have hcopy (dir : Word) : s.blockCopy dir = copied dir := s.blockCopy_eq dir
  have hagain (dir : Word) : (s.blockCopy dir).repeatWhile (s.blockCopy dir).moreBc = again (copied dir) := by
    rw [State.repeatWhile_moreBc, State.bc_blockCopy, hcopy]
  exact ⟨congrArg Host.Outcome.next (hcopy 1), congrArg Host.Outcome.next (hcopy (-1)),
    congrArg Host.Outcome.next (hagain 1), congrArg Host.Outcome.next (hagain (-1))⟩

/-- Settles O40: one comparison is one record, and the repetition is decided by the BC and the fZ it leaves. -/
theorem blockCompareResults : Obligations.BlockCompareResults := by
  intro s v half q compared again
  have hcompare (dir : Word) : s.blockCompare dir = compared dir := by
    rw [State.blockCompare_eq, blockCompareFlags_eq]
  have hagain (dir : Word) :
      (s.blockCompare dir).repeatWhile (s.blockCompare dir).moreSearch = again (compared dir) := by
    rw [State.repeatWhile_moreSearch, State.bc_blockCompare, hcompare]
    simp only [compared, decide_eq_false_iff_not]
    rfl
  exact ⟨congrArg Host.Outcome.next (hcompare 1), congrArg Host.Outcome.next (hcompare (-1)),
    congrArg Host.Outcome.next (hagain 1), congrArg Host.Outcome.next (hagain (-1))⟩

/-- Settles O41: one transfer is one record, and the repetition is decided by the B it leaves. -/
theorem blockInputOutputResults : Obligations.BlockInputOutputResults := by
  intro s v m after got put again
  have hin (dir : Word) : s.blockIn dir = after got dir := s.blockIn_eq dir
  have hout (dir : Word) : s.blockOut dir = after put dir := s.blockOut_eq dir
  have hinAgain (dir : Word) : (s.blockIn dir).repeatWhile (s.blockIn dir).moreB = again (after got dir) := by
    rw [State.repeatWhile_moreB, hin]
  have houtAgain (dir : Word) : (s.blockOut dir).repeatWhile (s.blockOut dir).moreB = again (after put dir) := by
    rw [State.repeatWhile_moreB, hout]
  exact ⟨congrArg Host.Outcome.next (hin 1), congrArg Host.Outcome.next (hin (-1)),
    congrArg Host.Outcome.next (hinAgain 1), congrArg Host.Outcome.next (hinAgain (-1)),
    congrArg Host.Outcome.next (hout 1), congrArg Host.Outcome.next (hout (-1)),
    congrArg Host.Outcome.next (houtAgain 1), congrArg Host.Outcome.next (houtAgain (-1))⟩

end Sys2Proof.Machine
end

section
/-! SUPPORT. The interrupt acceptances as one record each, the halted step, and the host's operations between steps
(60_exceptions.md R503, R505 to R513, R519, R520; 70_reset_and_hazards.md R600 to R602, R617, R618). -/

namespace Sys2Proof.Machine

/-! ### What the count of the delay keeps, and when a request is due after it -/

section
variable (s : State)

@[simp] theorem State.countDelay_im : s.countDelay.im = s.im := by rw [s.countDelay_eq]

@[simp] theorem State.countDelay_intData : s.countDelay.intData = s.intData := by rw [s.countDelay_eq]

@[simp] theorem State.countDelay_params : s.countDelay.params = s.params := by rw [s.countDelay_eq]

@[simp] theorem State.countDelay_cycles : s.countDelay.cycles = s.cycles := by rw [s.countDelay_eq]

@[simp] theorem State.countDelay_sp : s.countDelay.sp = s.sp := by rw [s.countDelay_eq]

end

/-- A request is due where IFF1 is set, or the delay sets it now, and no delay goes on (R507). -/
theorem State.maskableDue_countDelay {s : State} :
    s.countDelay.maskableDue = true ↔ s.intPending = true ∧ (s.iff1 = true ∨ s.eiDelay = 1) ∧ s.eiDelay ≤ 1 := by
  rw [State.maskableDue_eq_true, s.countDelay_eq]
  simp only [Bool.or_eq_true, beq_iff_eq, Nat.sub_eq_zero_iff_le]

/-! ### The halted step -/

theorem step_of_halted {s : State} (hhung : s.hung = false) (hhalt : s.halted = true) :
    step s = interruptEval s.incR.haltedNoOp := by
  simp [step, stepOnce, hhung, hhalt]

/-- Settles O48: the halted no-op by definition; where no request is due the evaluation only counts the delay, which changes
nothing the statement names. -/
theorem haltedSteps : Obligations.HaltedSteps := by
  intro s hhung hhalt
  have hst := step_of_halted hhung hhalt
  refine ⟨hst, fun hnmi hoff => ?_⟩
  have hdue : ¬ s.incR.haltedNoOp.countDelay.maskableDue = true := by
    rw [State.maskableDue_countDelay]
    rintro ⟨hint, hon, hle⟩
    obtain hno | ⟨hiff, hne⟩ | hlt := hoff
    · exact Bool.false_ne_true (hno.symm.trans hint)
    · exact hon.elim (fun h => Bool.false_ne_true (hiff.symm.trans h)) hne
    · exact Nat.not_le_of_lt hlt hle
  refine ⟨_, hst.trans (interruptEval_of_not_due hnmi hdue), ?_⟩
  rw [State.countDelay_eq]
  exact ⟨hhalt, rfl, rfl, rfl, rfl⟩

/-! ### The acceptances -/

theorem interruptEval_of_nmi {s : State} (hn : s.nmiPending = true) : interruptEval s = .next s.countDelay.acceptNmi := by
  simp [interruptEval, arbitrate, hn]

/-- The NMI keeps IFF2 (R508). -/
theorem State.wakeMasked_false (s : State) : s.wakeMasked false = { s with halted := false, iff1 := false } := by
  rw [State.wakeMasked, Bool.not_false, Bool.and_true]

/-- A maskable acceptance clears both flip-flops (R509). -/
theorem State.takeMaskable_eq (s : State) :
    s.takeMaskable = { s with intPending := false, halted := false, iff1 := false, iff2 := false } := by
  rw [State.takeMaskable, State.wakeMasked, Bool.not_true, Bool.and_false]

/-- Settles O53: an NMI is taken first; waking, the push and the cost as one record. -/
theorem nmiAcceptance : Obligations.NmiAcceptance := by
  refine ⟨rfl, fun s hn => ?_⟩
  rw [interruptEval_of_nmi hn, State.acceptNmi, State.takeNmi, State.wakeMasked_false, State.enterHandler, State.callTo_eq,
    State.push16_eq]
  rfl

/-- Settles O54: a due request is accepted by its mode; modes 1 and 2 push PC, and mode 2 then reads its entry. -/
theorem maskableAcceptance : Obligations.MaskableAcceptance := by
  refine ⟨rfl, rfl, fun s hn hint hiff hdelay => ?_⟩
  intro u pushed entry read cost
  have heval : interruptEval s = acceptMaskable u :=
    interruptEval_of_due hn (State.maskableDue_eq_true.2 ⟨s.countDelay_intPending.trans hint, hiff, hdelay⟩)
  have him : u.im = s.im := s.countDelay_im
  have hpush : u.takeMaskable.push16 u.takeMaskable.pc = pushed := by
    rw [u.takeMaskable_eq, State.push16_eq]
    rfl
  refine ⟨fun h => ?_, fun h => ?_, fun h => ?_⟩
  · rw [heval, acceptMaskable_of_im_one (him.trans h), State.modeOne, State.enterHandler, State.callTo_eq, hpush]
    rfl
  · rw [heval, acceptMaskable_of_im_two (him.trans h), State.modeTwo, State.enterVector, hpush]
    rfl
  · rw [heval, acceptMaskable_of_im_three (him.trans h), State.diag, him, h]

/-! ### Mode 0 -/

/-- A due request whose data byte is an instruction runs it, in the state the acceptance has woken and masked; its cost is that
of the acceptance and its base cost (R510, R617). -/
theorem interruptEval_modeZero_of_decode {s : State} {i : Instr} {rest : List Byte} (hn : s.nmiPending = false)
    (hdue : s.countDelay.maskableDue = true) (him : s.im = 0) (hd : decode s.params.edIoC [s.intData] = .ok (i, rest)) :
    ∃ t, exec i s.countDelay.takeMaskable = .next t ∧
      interruptEval s =
        .next
          { t with
            cycles := s.params.count (s.cycles + s.params.cycleTable.modeZero + baseCost s.params.cycleTable i) } := by
  obtain ⟨t, ht⟩ := exec_next (decode_core_complete _ _ _ _ hd).2 s.countDelay.takeMaskable
  refine ⟨t, ht, ?_⟩
  have hd' : decode s.countDelay.takeMaskable.params.edIoC [s.countDelay.takeMaskable.intData] = .ok (i, rest) := by
    simpa [State.takeMaskable_eq] using hd
  rw [interruptEval_of_due hn hdue, acceptMaskable_of_im_zero (s.countDelay_im.trans him), modeZero_of_decode hd', ht,
    andThen_next]
  simp [State.takeMaskable_eq]

/-- The eight bytes 11yyy111 are the restarts (R310). -/
theorem decode_rstByte (io : Bool) (y : Fin 8) :
    decode io [BitVec.ofNat 8 (0xC7 + 8 * y)] = .ok (.rst (BitVec.ofNat 8 (8 * y)), []) := by
  have hbyte : opByte 3 y 7 = BitVec.ofNat 8 (0xC7 + 8 * y) := by
    rw [opByte]
    congr 1
    omega
  rw [← hbyte, ← encode_rst y.isLt]
  exact decode_encode_rst io (complete_rst io y.isLt).1 []

theorem exec_rst_eq (s : State) (y : Fin 8) :
    exec (.rst (BitVec.ofNat 8 (8 * y))) s = .next (s.callTo (BitVec.ofNat 16 (8 * y))) := by
  rw [exec, execRst, zeroExtend_rstTarget]

theorem baseCost_rst (y : Fin 8) : baseCost specCycles (.rst (BitVec.ofNat 8 (8 * y))) = 11 :=
  ofBytes_encode_rst _ (complete_rst true y.isLt).1

/-- Settles O55: a data byte that decodes runs, an RST among them, and one that does not is refused by definition. -/
theorem modeZeroAcceptance : Obligations.ModeZeroAcceptance := by
  intro s hn hint hiff hdelay him u c
  have hdue : s.countDelay.maskableDue = true :=
    State.maskableDue_eq_true.2 ⟨s.countDelay_intPending.trans hint, hiff, hdelay⟩
  have hu : s.countDelay.takeMaskable = u := s.countDelay.takeMaskable_eq
  refine ⟨fun i hd => ?_, fun y hy => ?_, fun hd => ?_⟩
  · obtain ⟨t, ht, heval⟩ := interruptEval_modeZero_of_decode hn hdue him hd
    refine ⟨t, hu ▸ ht, heval.trans ?_⟩
    simp [u, c]
  · have hd : decode s.params.edIoC [s.intData] = .ok (.rst (BitVec.ofNat 8 (8 * y)), []) := by
      rw [hy, decode_rstByte]
    obtain ⟨t, ht, heval⟩ := interruptEval_modeZero_of_decode hn hdue him hd
    rw [exec_rst_eq, hu] at ht
    cases ht
    refine ⟨_, heval, rfl, ?_, fun hc => ?_⟩
    · simp [State.callTo_eq, u]
    · change s.params.count (s.cycles + c.modeZero + baseCost c _) = _
      rw [hc, baseCost_rst]
      rfl
  · rw [interruptEval_of_due hn hdue, acceptMaskable_of_im_zero (s.countDelay_im.trans him), hu, modeZero]
    simp [u, hd]

/-! ### The host's operations -/

/-- Settles O60: reset is one record, its flag byte unpacked from 0xFF; the requests and the four reads by definition. -/
theorem resetAndHostOperations : Obligations.ResetAndHostOperations := by
  intro s w d t read
  have hflags : t.f.pack = 0xFF := Flags.pack_unpack 0xFF
  refine ⟨rfl, rfl, rfl, hflags, ?_⟩
  and_intros <;> rfl

end Sys2Proof.Machine
end
